-- ==== Sys2Proof/Word.lean ====
section
/-! DEFINITION. The byte and the text type of the model (00_scope.md R5, R7). -/

namespace Sys2Proof

/-- A byte is 8 bits; bit 0 is the least significant (R5). -/
abbrev Byte := BitVec 8

/-- "Text is a sequence of ASCII characters" (R7), held as the list of its characters (log entry 13). -/
abbrev Text := List Char

end Sys2Proof
end

