-- ==== Sys2Proof/Syntax.lean ====
section
/-! DEFINITION. The syntax of the instruction set as the Instruction Table catalogues it: mnemonics, addressing modes,
descriptors, and one constructor of `Instr` per row of `spec/opcode_table.json` (41_instruction_table.md R150, R152, R164). -/

namespace Sys2Proof

/-- The 13 addressing-mode variants, in the order of 41_instruction_table.md R152; the set is closed. -/
inductive Mode where
  | accumulator | absolute | absoluteX | absoluteY | immediate | implied | indirect
  | indirectX | indirectY | relative | zeropage | zeropageX | zeropageY
deriving DecidableEq, Repr

/-- The cycle-exception tag of a descriptor (R150); metadata that no rule reads (R162). -/
inductive CycleTag where
  | none | crossPage | branch
deriving DecidableEq, Repr

/-- An upper-case letter `A` to `Z` (R150). -/
inductive Letter where
  | a | b | c | d | e | f | g | h | i | j | k | l | m
  | n | o | p | q | r | s | t | u | v | w | x | y | z
deriving DecidableEq, Repr

/-- A mnemonic: any three upper-case letters (R150). -/
structure Mnemonic where
  first  : Letter
  second : Letter
  third  : Letter
deriving DecidableEq, Repr

/-! The 56 mnemonics of 41_instruction_table.md R165, which the rows of `spec/opcode_table.json` carry. -/

abbrev Mnemonic.adc : Mnemonic := ⟨.a, .d, .c⟩
abbrev Mnemonic.and : Mnemonic := ⟨.a, .n, .d⟩
abbrev Mnemonic.asl : Mnemonic := ⟨.a, .s, .l⟩
abbrev Mnemonic.bcc : Mnemonic := ⟨.b, .c, .c⟩
abbrev Mnemonic.bcs : Mnemonic := ⟨.b, .c, .s⟩
abbrev Mnemonic.beq : Mnemonic := ⟨.b, .e, .q⟩
abbrev Mnemonic.bit : Mnemonic := ⟨.b, .i, .t⟩
abbrev Mnemonic.bmi : Mnemonic := ⟨.b, .m, .i⟩
abbrev Mnemonic.bne : Mnemonic := ⟨.b, .n, .e⟩
abbrev Mnemonic.bpl : Mnemonic := ⟨.b, .p, .l⟩
abbrev Mnemonic.brk : Mnemonic := ⟨.b, .r, .k⟩
abbrev Mnemonic.bvc : Mnemonic := ⟨.b, .v, .c⟩
abbrev Mnemonic.bvs : Mnemonic := ⟨.b, .v, .s⟩
abbrev Mnemonic.clc : Mnemonic := ⟨.c, .l, .c⟩
abbrev Mnemonic.cld : Mnemonic := ⟨.c, .l, .d⟩
abbrev Mnemonic.cli : Mnemonic := ⟨.c, .l, .i⟩
abbrev Mnemonic.clv : Mnemonic := ⟨.c, .l, .v⟩
abbrev Mnemonic.cmp : Mnemonic := ⟨.c, .m, .p⟩
abbrev Mnemonic.cpx : Mnemonic := ⟨.c, .p, .x⟩
abbrev Mnemonic.cpy : Mnemonic := ⟨.c, .p, .y⟩
abbrev Mnemonic.dec : Mnemonic := ⟨.d, .e, .c⟩
abbrev Mnemonic.dex : Mnemonic := ⟨.d, .e, .x⟩
abbrev Mnemonic.dey : Mnemonic := ⟨.d, .e, .y⟩
abbrev Mnemonic.eor : Mnemonic := ⟨.e, .o, .r⟩
abbrev Mnemonic.inc : Mnemonic := ⟨.i, .n, .c⟩
abbrev Mnemonic.inx : Mnemonic := ⟨.i, .n, .x⟩
abbrev Mnemonic.iny : Mnemonic := ⟨.i, .n, .y⟩
abbrev Mnemonic.jmp : Mnemonic := ⟨.j, .m, .p⟩
abbrev Mnemonic.jsr : Mnemonic := ⟨.j, .s, .r⟩
abbrev Mnemonic.lda : Mnemonic := ⟨.l, .d, .a⟩
abbrev Mnemonic.ldx : Mnemonic := ⟨.l, .d, .x⟩
abbrev Mnemonic.ldy : Mnemonic := ⟨.l, .d, .y⟩
abbrev Mnemonic.lsr : Mnemonic := ⟨.l, .s, .r⟩
abbrev Mnemonic.nop : Mnemonic := ⟨.n, .o, .p⟩
abbrev Mnemonic.ora : Mnemonic := ⟨.o, .r, .a⟩
abbrev Mnemonic.pha : Mnemonic := ⟨.p, .h, .a⟩
abbrev Mnemonic.php : Mnemonic := ⟨.p, .h, .p⟩
abbrev Mnemonic.pla : Mnemonic := ⟨.p, .l, .a⟩
abbrev Mnemonic.plp : Mnemonic := ⟨.p, .l, .p⟩
abbrev Mnemonic.rol : Mnemonic := ⟨.r, .o, .l⟩
abbrev Mnemonic.ror : Mnemonic := ⟨.r, .o, .r⟩
abbrev Mnemonic.rti : Mnemonic := ⟨.r, .t, .i⟩
abbrev Mnemonic.rts : Mnemonic := ⟨.r, .t, .s⟩
abbrev Mnemonic.sbc : Mnemonic := ⟨.s, .b, .c⟩
abbrev Mnemonic.sec : Mnemonic := ⟨.s, .e, .c⟩
abbrev Mnemonic.sed : Mnemonic := ⟨.s, .e, .d⟩
abbrev Mnemonic.sei : Mnemonic := ⟨.s, .e, .i⟩
abbrev Mnemonic.sta : Mnemonic := ⟨.s, .t, .a⟩
abbrev Mnemonic.stx : Mnemonic := ⟨.s, .t, .x⟩
abbrev Mnemonic.sty : Mnemonic := ⟨.s, .t, .y⟩
abbrev Mnemonic.tax : Mnemonic := ⟨.t, .a, .x⟩
abbrev Mnemonic.tay : Mnemonic := ⟨.t, .a, .y⟩
abbrev Mnemonic.tsx : Mnemonic := ⟨.t, .s, .x⟩
abbrev Mnemonic.txa : Mnemonic := ⟨.t, .x, .a⟩
abbrev Mnemonic.txs : Mnemonic := ⟨.t, .x, .s⟩
abbrev Mnemonic.tya : Mnemonic := ⟨.t, .y, .a⟩

/-- An Instruction Descriptor: one row of the Instruction Table (R150). `cycles` and `tag` are carried and read by
nothing (R162). -/
structure Descriptor where
  opcode   : Byte
  mnemonic : Mnemonic
  mode     : Mode
  cycles   : Nat
  tag      : CycleTag
deriving DecidableEq, Repr

/-- A decoded instruction: one constructor per row of the opcode table, with the operand bytes that follow the opcode
byte in the program region (30_encoding.md R91, R92, R93): none in format F1, `byte1` in F2, `byte1` (low) and `byte2`
(high) in F3. The opcode byte itself is no operand: the table in force gives it. -/
inductive Instr where
  | adcImmediate (byte1 : Byte)
  | adcZeropage (byte1 : Byte)
  | adcZeropageX (byte1 : Byte)
  | adcAbsolute (byte1 byte2 : Byte)
  | adcAbsoluteX (byte1 byte2 : Byte)
  | adcAbsoluteY (byte1 byte2 : Byte)
  | adcIndirectX (byte1 : Byte)
  | adcIndirectY (byte1 : Byte)
  | andImmediate (byte1 : Byte)
  | andZeropage (byte1 : Byte)
  | andZeropageX (byte1 : Byte)
  | andAbsolute (byte1 byte2 : Byte)
  | andAbsoluteX (byte1 byte2 : Byte)
  | andAbsoluteY (byte1 byte2 : Byte)
  | andIndirectX (byte1 : Byte)
  | andIndirectY (byte1 : Byte)
  | aslAccumulator
  | aslZeropage (byte1 : Byte)
  | aslZeropageX (byte1 : Byte)
  | aslAbsolute (byte1 byte2 : Byte)
  | aslAbsoluteX (byte1 byte2 : Byte)
  | bccRelative (byte1 : Byte)
  | bcsRelative (byte1 : Byte)
  | beqRelative (byte1 : Byte)
  | bitZeropage (byte1 : Byte)
  | bitAbsolute (byte1 byte2 : Byte)
  | bmiRelative (byte1 : Byte)
  | bneRelative (byte1 : Byte)
  | bplRelative (byte1 : Byte)
  | brkImplied
  | bvcRelative (byte1 : Byte)
  | bvsRelative (byte1 : Byte)
  | clcImplied
  | cldImplied
  | cliImplied
  | clvImplied
  | cmpImmediate (byte1 : Byte)
  | cmpZeropage (byte1 : Byte)
  | cmpZeropageX (byte1 : Byte)
  | cmpAbsolute (byte1 byte2 : Byte)
  | cmpAbsoluteX (byte1 byte2 : Byte)
  | cmpAbsoluteY (byte1 byte2 : Byte)
  | cmpIndirectX (byte1 : Byte)
  | cmpIndirectY (byte1 : Byte)
  | cpxImmediate (byte1 : Byte)
  | cpxZeropage (byte1 : Byte)
  | cpxAbsolute (byte1 byte2 : Byte)
  | cpyImmediate (byte1 : Byte)
  | cpyZeropage (byte1 : Byte)
  | cpyAbsolute (byte1 byte2 : Byte)
  | decZeropage (byte1 : Byte)
  | decZeropageX (byte1 : Byte)
  | decAbsolute (byte1 byte2 : Byte)
  | decAbsoluteX (byte1 byte2 : Byte)
  | dexImplied
  | deyImplied
  | eorImmediate (byte1 : Byte)
  | eorZeropage (byte1 : Byte)
  | eorZeropageX (byte1 : Byte)
  | eorAbsolute (byte1 byte2 : Byte)
  | eorAbsoluteX (byte1 byte2 : Byte)
  | eorAbsoluteY (byte1 byte2 : Byte)
  | eorIndirectX (byte1 : Byte)
  | eorIndirectY (byte1 : Byte)
  | incZeropage (byte1 : Byte)
  | incZeropageX (byte1 : Byte)
  | incAbsolute (byte1 byte2 : Byte)
  | incAbsoluteX (byte1 byte2 : Byte)
  | inxImplied
  | inyImplied
  | jmpAbsolute (byte1 byte2 : Byte)
  | jmpIndirect (byte1 byte2 : Byte)
  | jsrAbsolute (byte1 byte2 : Byte)
  | ldaImmediate (byte1 : Byte)
  | ldaZeropage (byte1 : Byte)
  | ldaZeropageX (byte1 : Byte)
  | ldaAbsolute (byte1 byte2 : Byte)
  | ldaAbsoluteX (byte1 byte2 : Byte)
  | ldaAbsoluteY (byte1 byte2 : Byte)
  | ldaIndirectX (byte1 : Byte)
  | ldaIndirectY (byte1 : Byte)
  | ldxImmediate (byte1 : Byte)
  | ldxZeropage (byte1 : Byte)
  | ldxZeropageY (byte1 : Byte)
  | ldxAbsolute (byte1 byte2 : Byte)
  | ldxAbsoluteY (byte1 byte2 : Byte)
  | ldyImmediate (byte1 : Byte)
  | ldyZeropage (byte1 : Byte)
  | ldyZeropageX (byte1 : Byte)
  | ldyAbsolute (byte1 byte2 : Byte)
  | ldyAbsoluteX (byte1 byte2 : Byte)
  | lsrAccumulator
  | lsrZeropage (byte1 : Byte)
  | lsrZeropageX (byte1 : Byte)
  | lsrAbsolute (byte1 byte2 : Byte)
  | lsrAbsoluteX (byte1 byte2 : Byte)
  | nopImplied
  | oraImmediate (byte1 : Byte)
  | oraZeropage (byte1 : Byte)
  | oraZeropageX (byte1 : Byte)
  | oraAbsolute (byte1 byte2 : Byte)
  | oraAbsoluteX (byte1 byte2 : Byte)
  | oraAbsoluteY (byte1 byte2 : Byte)
  | oraIndirectX (byte1 : Byte)
  | oraIndirectY (byte1 : Byte)
  | phaImplied
  | phpImplied
  | plaImplied
  | plpImplied
  | rolAccumulator
  | rolZeropage (byte1 : Byte)
  | rolZeropageX (byte1 : Byte)
  | rolAbsolute (byte1 byte2 : Byte)
  | rolAbsoluteX (byte1 byte2 : Byte)
  | rorAccumulator
  | rorZeropage (byte1 : Byte)
  | rorZeropageX (byte1 : Byte)
  | rorAbsolute (byte1 byte2 : Byte)
  | rorAbsoluteX (byte1 byte2 : Byte)
  | rtiImplied
  | rtsImplied
  | sbcImmediate (byte1 : Byte)
  | sbcZeropage (byte1 : Byte)
  | sbcZeropageX (byte1 : Byte)
  | sbcAbsolute (byte1 byte2 : Byte)
  | sbcAbsoluteX (byte1 byte2 : Byte)
  | sbcAbsoluteY (byte1 byte2 : Byte)
  | sbcIndirectX (byte1 : Byte)
  | sbcIndirectY (byte1 : Byte)
  | secImplied
  | sedImplied
  | seiImplied
  | staZeropage (byte1 : Byte)
  | staZeropageX (byte1 : Byte)
  | staAbsolute (byte1 byte2 : Byte)
  | staAbsoluteX (byte1 byte2 : Byte)
  | staAbsoluteY (byte1 byte2 : Byte)
  | staIndirectX (byte1 : Byte)
  | staIndirectY (byte1 : Byte)
  | stxZeropage (byte1 : Byte)
  | stxZeropageY (byte1 : Byte)
  | stxAbsolute (byte1 byte2 : Byte)
  | styZeropage (byte1 : Byte)
  | styZeropageX (byte1 : Byte)
  | styAbsolute (byte1 byte2 : Byte)
  | taxImplied
  | tayImplied
  | tsxImplied
  | txaImplied
  | txsImplied
  | tyaImplied
deriving DecidableEq, Repr

/-- The mnemonic of an instruction's row. -/
def Instr.mnemonic : Instr → Mnemonic
  | .adcImmediate _ => .adc
  | .adcZeropage _ => .adc
  | .adcZeropageX _ => .adc
  | .adcAbsolute _ _ => .adc
  | .adcAbsoluteX _ _ => .adc
  | .adcAbsoluteY _ _ => .adc
  | .adcIndirectX _ => .adc
  | .adcIndirectY _ => .adc
  | .andImmediate _ => .and
  | .andZeropage _ => .and
  | .andZeropageX _ => .and
  | .andAbsolute _ _ => .and
  | .andAbsoluteX _ _ => .and
  | .andAbsoluteY _ _ => .and
  | .andIndirectX _ => .and
  | .andIndirectY _ => .and
  | .aslAccumulator => .asl
  | .aslZeropage _ => .asl
  | .aslZeropageX _ => .asl
  | .aslAbsolute _ _ => .asl
  | .aslAbsoluteX _ _ => .asl
  | .bccRelative _ => .bcc
  | .bcsRelative _ => .bcs
  | .beqRelative _ => .beq
  | .bitZeropage _ => .bit
  | .bitAbsolute _ _ => .bit
  | .bmiRelative _ => .bmi
  | .bneRelative _ => .bne
  | .bplRelative _ => .bpl
  | .brkImplied => .brk
  | .bvcRelative _ => .bvc
  | .bvsRelative _ => .bvs
  | .clcImplied => .clc
  | .cldImplied => .cld
  | .cliImplied => .cli
  | .clvImplied => .clv
  | .cmpImmediate _ => .cmp
  | .cmpZeropage _ => .cmp
  | .cmpZeropageX _ => .cmp
  | .cmpAbsolute _ _ => .cmp
  | .cmpAbsoluteX _ _ => .cmp
  | .cmpAbsoluteY _ _ => .cmp
  | .cmpIndirectX _ => .cmp
  | .cmpIndirectY _ => .cmp
  | .cpxImmediate _ => .cpx
  | .cpxZeropage _ => .cpx
  | .cpxAbsolute _ _ => .cpx
  | .cpyImmediate _ => .cpy
  | .cpyZeropage _ => .cpy
  | .cpyAbsolute _ _ => .cpy
  | .decZeropage _ => .dec
  | .decZeropageX _ => .dec
  | .decAbsolute _ _ => .dec
  | .decAbsoluteX _ _ => .dec
  | .dexImplied => .dex
  | .deyImplied => .dey
  | .eorImmediate _ => .eor
  | .eorZeropage _ => .eor
  | .eorZeropageX _ => .eor
  | .eorAbsolute _ _ => .eor
  | .eorAbsoluteX _ _ => .eor
  | .eorAbsoluteY _ _ => .eor
  | .eorIndirectX _ => .eor
  | .eorIndirectY _ => .eor
  | .incZeropage _ => .inc
  | .incZeropageX _ => .inc
  | .incAbsolute _ _ => .inc
  | .incAbsoluteX _ _ => .inc
  | .inxImplied => .inx
  | .inyImplied => .iny
  | .jmpAbsolute _ _ => .jmp
  | .jmpIndirect _ _ => .jmp
  | .jsrAbsolute _ _ => .jsr
  | .ldaImmediate _ => .lda
  | .ldaZeropage _ => .lda
  | .ldaZeropageX _ => .lda
  | .ldaAbsolute _ _ => .lda
  | .ldaAbsoluteX _ _ => .lda
  | .ldaAbsoluteY _ _ => .lda
  | .ldaIndirectX _ => .lda
  | .ldaIndirectY _ => .lda
  | .ldxImmediate _ => .ldx
  | .ldxZeropage _ => .ldx
  | .ldxZeropageY _ => .ldx
  | .ldxAbsolute _ _ => .ldx
  | .ldxAbsoluteY _ _ => .ldx
  | .ldyImmediate _ => .ldy
  | .ldyZeropage _ => .ldy
  | .ldyZeropageX _ => .ldy
  | .ldyAbsolute _ _ => .ldy
  | .ldyAbsoluteX _ _ => .ldy
  | .lsrAccumulator => .lsr
  | .lsrZeropage _ => .lsr
  | .lsrZeropageX _ => .lsr
  | .lsrAbsolute _ _ => .lsr
  | .lsrAbsoluteX _ _ => .lsr
  | .nopImplied => .nop
  | .oraImmediate _ => .ora
  | .oraZeropage _ => .ora
  | .oraZeropageX _ => .ora
  | .oraAbsolute _ _ => .ora
  | .oraAbsoluteX _ _ => .ora
  | .oraAbsoluteY _ _ => .ora
  | .oraIndirectX _ => .ora
  | .oraIndirectY _ => .ora
  | .phaImplied => .pha
  | .phpImplied => .php
  | .plaImplied => .pla
  | .plpImplied => .plp
  | .rolAccumulator => .rol
  | .rolZeropage _ => .rol
  | .rolZeropageX _ => .rol
  | .rolAbsolute _ _ => .rol
  | .rolAbsoluteX _ _ => .rol
  | .rorAccumulator => .ror
  | .rorZeropage _ => .ror
  | .rorZeropageX _ => .ror
  | .rorAbsolute _ _ => .ror
  | .rorAbsoluteX _ _ => .ror
  | .rtiImplied => .rti
  | .rtsImplied => .rts
  | .sbcImmediate _ => .sbc
  | .sbcZeropage _ => .sbc
  | .sbcZeropageX _ => .sbc
  | .sbcAbsolute _ _ => .sbc
  | .sbcAbsoluteX _ _ => .sbc
  | .sbcAbsoluteY _ _ => .sbc
  | .sbcIndirectX _ => .sbc
  | .sbcIndirectY _ => .sbc
  | .secImplied => .sec
  | .sedImplied => .sed
  | .seiImplied => .sei
  | .staZeropage _ => .sta
  | .staZeropageX _ => .sta
  | .staAbsolute _ _ => .sta
  | .staAbsoluteX _ _ => .sta
  | .staAbsoluteY _ _ => .sta
  | .staIndirectX _ => .sta
  | .staIndirectY _ => .sta
  | .stxZeropage _ => .stx
  | .stxZeropageY _ => .stx
  | .stxAbsolute _ _ => .stx
  | .styZeropage _ => .sty
  | .styZeropageX _ => .sty
  | .styAbsolute _ _ => .sty
  | .taxImplied => .tax
  | .tayImplied => .tay
  | .tsxImplied => .tsx
  | .txaImplied => .txa
  | .txsImplied => .txs
  | .tyaImplied => .tya

/-- The addressing mode of an instruction's row. -/
def Instr.mode : Instr → Mode
  | .adcImmediate _ => .immediate
  | .adcZeropage _ => .zeropage
  | .adcZeropageX _ => .zeropageX
  | .adcAbsolute _ _ => .absolute
  | .adcAbsoluteX _ _ => .absoluteX
  | .adcAbsoluteY _ _ => .absoluteY
  | .adcIndirectX _ => .indirectX
  | .adcIndirectY _ => .indirectY
  | .andImmediate _ => .immediate
  | .andZeropage _ => .zeropage
  | .andZeropageX _ => .zeropageX
  | .andAbsolute _ _ => .absolute
  | .andAbsoluteX _ _ => .absoluteX
  | .andAbsoluteY _ _ => .absoluteY
  | .andIndirectX _ => .indirectX
  | .andIndirectY _ => .indirectY
  | .aslAccumulator => .accumulator
  | .aslZeropage _ => .zeropage
  | .aslZeropageX _ => .zeropageX
  | .aslAbsolute _ _ => .absolute
  | .aslAbsoluteX _ _ => .absoluteX
  | .bccRelative _ => .relative
  | .bcsRelative _ => .relative
  | .beqRelative _ => .relative
  | .bitZeropage _ => .zeropage
  | .bitAbsolute _ _ => .absolute
  | .bmiRelative _ => .relative
  | .bneRelative _ => .relative
  | .bplRelative _ => .relative
  | .brkImplied => .implied
  | .bvcRelative _ => .relative
  | .bvsRelative _ => .relative
  | .clcImplied => .implied
  | .cldImplied => .implied
  | .cliImplied => .implied
  | .clvImplied => .implied
  | .cmpImmediate _ => .immediate
  | .cmpZeropage _ => .zeropage
  | .cmpZeropageX _ => .zeropageX
  | .cmpAbsolute _ _ => .absolute
  | .cmpAbsoluteX _ _ => .absoluteX
  | .cmpAbsoluteY _ _ => .absoluteY
  | .cmpIndirectX _ => .indirectX
  | .cmpIndirectY _ => .indirectY
  | .cpxImmediate _ => .immediate
  | .cpxZeropage _ => .zeropage
  | .cpxAbsolute _ _ => .absolute
  | .cpyImmediate _ => .immediate
  | .cpyZeropage _ => .zeropage
  | .cpyAbsolute _ _ => .absolute
  | .decZeropage _ => .zeropage
  | .decZeropageX _ => .zeropageX
  | .decAbsolute _ _ => .absolute
  | .decAbsoluteX _ _ => .absoluteX
  | .dexImplied => .implied
  | .deyImplied => .implied
  | .eorImmediate _ => .immediate
  | .eorZeropage _ => .zeropage
  | .eorZeropageX _ => .zeropageX
  | .eorAbsolute _ _ => .absolute
  | .eorAbsoluteX _ _ => .absoluteX
  | .eorAbsoluteY _ _ => .absoluteY
  | .eorIndirectX _ => .indirectX
  | .eorIndirectY _ => .indirectY
  | .incZeropage _ => .zeropage
  | .incZeropageX _ => .zeropageX
  | .incAbsolute _ _ => .absolute
  | .incAbsoluteX _ _ => .absoluteX
  | .inxImplied => .implied
  | .inyImplied => .implied
  | .jmpAbsolute _ _ => .absolute
  | .jmpIndirect _ _ => .indirect
  | .jsrAbsolute _ _ => .absolute
  | .ldaImmediate _ => .immediate
  | .ldaZeropage _ => .zeropage
  | .ldaZeropageX _ => .zeropageX
  | .ldaAbsolute _ _ => .absolute
  | .ldaAbsoluteX _ _ => .absoluteX
  | .ldaAbsoluteY _ _ => .absoluteY
  | .ldaIndirectX _ => .indirectX
  | .ldaIndirectY _ => .indirectY
  | .ldxImmediate _ => .immediate
  | .ldxZeropage _ => .zeropage
  | .ldxZeropageY _ => .zeropageY
  | .ldxAbsolute _ _ => .absolute
  | .ldxAbsoluteY _ _ => .absoluteY
  | .ldyImmediate _ => .immediate
  | .ldyZeropage _ => .zeropage
  | .ldyZeropageX _ => .zeropageX
  | .ldyAbsolute _ _ => .absolute
  | .ldyAbsoluteX _ _ => .absoluteX
  | .lsrAccumulator => .accumulator
  | .lsrZeropage _ => .zeropage
  | .lsrZeropageX _ => .zeropageX
  | .lsrAbsolute _ _ => .absolute
  | .lsrAbsoluteX _ _ => .absoluteX
  | .nopImplied => .implied
  | .oraImmediate _ => .immediate
  | .oraZeropage _ => .zeropage
  | .oraZeropageX _ => .zeropageX
  | .oraAbsolute _ _ => .absolute
  | .oraAbsoluteX _ _ => .absoluteX
  | .oraAbsoluteY _ _ => .absoluteY
  | .oraIndirectX _ => .indirectX
  | .oraIndirectY _ => .indirectY
  | .phaImplied => .implied
  | .phpImplied => .implied
  | .plaImplied => .implied
  | .plpImplied => .implied
  | .rolAccumulator => .accumulator
  | .rolZeropage _ => .zeropage
  | .rolZeropageX _ => .zeropageX
  | .rolAbsolute _ _ => .absolute
  | .rolAbsoluteX _ _ => .absoluteX
  | .rorAccumulator => .accumulator
  | .rorZeropage _ => .zeropage
  | .rorZeropageX _ => .zeropageX
  | .rorAbsolute _ _ => .absolute
  | .rorAbsoluteX _ _ => .absoluteX
  | .rtiImplied => .implied
  | .rtsImplied => .implied
  | .sbcImmediate _ => .immediate
  | .sbcZeropage _ => .zeropage
  | .sbcZeropageX _ => .zeropageX
  | .sbcAbsolute _ _ => .absolute
  | .sbcAbsoluteX _ _ => .absoluteX
  | .sbcAbsoluteY _ _ => .absoluteY
  | .sbcIndirectX _ => .indirectX
  | .sbcIndirectY _ => .indirectY
  | .secImplied => .implied
  | .sedImplied => .implied
  | .seiImplied => .implied
  | .staZeropage _ => .zeropage
  | .staZeropageX _ => .zeropageX
  | .staAbsolute _ _ => .absolute
  | .staAbsoluteX _ _ => .absoluteX
  | .staAbsoluteY _ _ => .absoluteY
  | .staIndirectX _ => .indirectX
  | .staIndirectY _ => .indirectY
  | .stxZeropage _ => .zeropage
  | .stxZeropageY _ => .zeropageY
  | .stxAbsolute _ _ => .absolute
  | .styZeropage _ => .zeropage
  | .styZeropageX _ => .zeropageX
  | .styAbsolute _ _ => .absolute
  | .taxImplied => .implied
  | .tayImplied => .implied
  | .tsxImplied => .implied
  | .txaImplied => .implied
  | .txsImplied => .implied
  | .tyaImplied => .implied

/-- The operand bytes of an instruction, in the order they stand in the program region. -/
def Instr.operands : Instr → List Byte
  | .adcImmediate byte1 => [byte1]
  | .adcZeropage byte1 => [byte1]
  | .adcZeropageX byte1 => [byte1]
  | .adcAbsolute byte1 byte2 => [byte1, byte2]
  | .adcAbsoluteX byte1 byte2 => [byte1, byte2]
  | .adcAbsoluteY byte1 byte2 => [byte1, byte2]
  | .adcIndirectX byte1 => [byte1]
  | .adcIndirectY byte1 => [byte1]
  | .andImmediate byte1 => [byte1]
  | .andZeropage byte1 => [byte1]
  | .andZeropageX byte1 => [byte1]
  | .andAbsolute byte1 byte2 => [byte1, byte2]
  | .andAbsoluteX byte1 byte2 => [byte1, byte2]
  | .andAbsoluteY byte1 byte2 => [byte1, byte2]
  | .andIndirectX byte1 => [byte1]
  | .andIndirectY byte1 => [byte1]
  | .aslAccumulator => []
  | .aslZeropage byte1 => [byte1]
  | .aslZeropageX byte1 => [byte1]
  | .aslAbsolute byte1 byte2 => [byte1, byte2]
  | .aslAbsoluteX byte1 byte2 => [byte1, byte2]
  | .bccRelative byte1 => [byte1]
  | .bcsRelative byte1 => [byte1]
  | .beqRelative byte1 => [byte1]
  | .bitZeropage byte1 => [byte1]
  | .bitAbsolute byte1 byte2 => [byte1, byte2]
  | .bmiRelative byte1 => [byte1]
  | .bneRelative byte1 => [byte1]
  | .bplRelative byte1 => [byte1]
  | .brkImplied => []
  | .bvcRelative byte1 => [byte1]
  | .bvsRelative byte1 => [byte1]
  | .clcImplied => []
  | .cldImplied => []
  | .cliImplied => []
  | .clvImplied => []
  | .cmpImmediate byte1 => [byte1]
  | .cmpZeropage byte1 => [byte1]
  | .cmpZeropageX byte1 => [byte1]
  | .cmpAbsolute byte1 byte2 => [byte1, byte2]
  | .cmpAbsoluteX byte1 byte2 => [byte1, byte2]
  | .cmpAbsoluteY byte1 byte2 => [byte1, byte2]
  | .cmpIndirectX byte1 => [byte1]
  | .cmpIndirectY byte1 => [byte1]
  | .cpxImmediate byte1 => [byte1]
  | .cpxZeropage byte1 => [byte1]
  | .cpxAbsolute byte1 byte2 => [byte1, byte2]
  | .cpyImmediate byte1 => [byte1]
  | .cpyZeropage byte1 => [byte1]
  | .cpyAbsolute byte1 byte2 => [byte1, byte2]
  | .decZeropage byte1 => [byte1]
  | .decZeropageX byte1 => [byte1]
  | .decAbsolute byte1 byte2 => [byte1, byte2]
  | .decAbsoluteX byte1 byte2 => [byte1, byte2]
  | .dexImplied => []
  | .deyImplied => []
  | .eorImmediate byte1 => [byte1]
  | .eorZeropage byte1 => [byte1]
  | .eorZeropageX byte1 => [byte1]
  | .eorAbsolute byte1 byte2 => [byte1, byte2]
  | .eorAbsoluteX byte1 byte2 => [byte1, byte2]
  | .eorAbsoluteY byte1 byte2 => [byte1, byte2]
  | .eorIndirectX byte1 => [byte1]
  | .eorIndirectY byte1 => [byte1]
  | .incZeropage byte1 => [byte1]
  | .incZeropageX byte1 => [byte1]
  | .incAbsolute byte1 byte2 => [byte1, byte2]
  | .incAbsoluteX byte1 byte2 => [byte1, byte2]
  | .inxImplied => []
  | .inyImplied => []
  | .jmpAbsolute byte1 byte2 => [byte1, byte2]
  | .jmpIndirect byte1 byte2 => [byte1, byte2]
  | .jsrAbsolute byte1 byte2 => [byte1, byte2]
  | .ldaImmediate byte1 => [byte1]
  | .ldaZeropage byte1 => [byte1]
  | .ldaZeropageX byte1 => [byte1]
  | .ldaAbsolute byte1 byte2 => [byte1, byte2]
  | .ldaAbsoluteX byte1 byte2 => [byte1, byte2]
  | .ldaAbsoluteY byte1 byte2 => [byte1, byte2]
  | .ldaIndirectX byte1 => [byte1]
  | .ldaIndirectY byte1 => [byte1]
  | .ldxImmediate byte1 => [byte1]
  | .ldxZeropage byte1 => [byte1]
  | .ldxZeropageY byte1 => [byte1]
  | .ldxAbsolute byte1 byte2 => [byte1, byte2]
  | .ldxAbsoluteY byte1 byte2 => [byte1, byte2]
  | .ldyImmediate byte1 => [byte1]
  | .ldyZeropage byte1 => [byte1]
  | .ldyZeropageX byte1 => [byte1]
  | .ldyAbsolute byte1 byte2 => [byte1, byte2]
  | .ldyAbsoluteX byte1 byte2 => [byte1, byte2]
  | .lsrAccumulator => []
  | .lsrZeropage byte1 => [byte1]
  | .lsrZeropageX byte1 => [byte1]
  | .lsrAbsolute byte1 byte2 => [byte1, byte2]
  | .lsrAbsoluteX byte1 byte2 => [byte1, byte2]
  | .nopImplied => []
  | .oraImmediate byte1 => [byte1]
  | .oraZeropage byte1 => [byte1]
  | .oraZeropageX byte1 => [byte1]
  | .oraAbsolute byte1 byte2 => [byte1, byte2]
  | .oraAbsoluteX byte1 byte2 => [byte1, byte2]
  | .oraAbsoluteY byte1 byte2 => [byte1, byte2]
  | .oraIndirectX byte1 => [byte1]
  | .oraIndirectY byte1 => [byte1]
  | .phaImplied => []
  | .phpImplied => []
  | .plaImplied => []
  | .plpImplied => []
  | .rolAccumulator => []
  | .rolZeropage byte1 => [byte1]
  | .rolZeropageX byte1 => [byte1]
  | .rolAbsolute byte1 byte2 => [byte1, byte2]
  | .rolAbsoluteX byte1 byte2 => [byte1, byte2]
  | .rorAccumulator => []
  | .rorZeropage byte1 => [byte1]
  | .rorZeropageX byte1 => [byte1]
  | .rorAbsolute byte1 byte2 => [byte1, byte2]
  | .rorAbsoluteX byte1 byte2 => [byte1, byte2]
  | .rtiImplied => []
  | .rtsImplied => []
  | .sbcImmediate byte1 => [byte1]
  | .sbcZeropage byte1 => [byte1]
  | .sbcZeropageX byte1 => [byte1]
  | .sbcAbsolute byte1 byte2 => [byte1, byte2]
  | .sbcAbsoluteX byte1 byte2 => [byte1, byte2]
  | .sbcAbsoluteY byte1 byte2 => [byte1, byte2]
  | .sbcIndirectX byte1 => [byte1]
  | .sbcIndirectY byte1 => [byte1]
  | .secImplied => []
  | .sedImplied => []
  | .seiImplied => []
  | .staZeropage byte1 => [byte1]
  | .staZeropageX byte1 => [byte1]
  | .staAbsolute byte1 byte2 => [byte1, byte2]
  | .staAbsoluteX byte1 byte2 => [byte1, byte2]
  | .staAbsoluteY byte1 byte2 => [byte1, byte2]
  | .staIndirectX byte1 => [byte1]
  | .staIndirectY byte1 => [byte1]
  | .stxZeropage byte1 => [byte1]
  | .stxZeropageY byte1 => [byte1]
  | .stxAbsolute byte1 byte2 => [byte1, byte2]
  | .styZeropage byte1 => [byte1]
  | .styZeropageX byte1 => [byte1]
  | .styAbsolute byte1 byte2 => [byte1, byte2]
  | .taxImplied => []
  | .tayImplied => []
  | .tsxImplied => []
  | .txaImplied => []
  | .txsImplied => []
  | .tyaImplied => []

end Sys2Proof
end

