-- ==== Sys2Proof/Config.lean ====
section
/-! DEFINITION. The parameters of 00_scope.md R4: the fixed ones as constants, the open ones as a configuration record,
given at construction and never written (70_reset_and_hazards.md R433; log entry 1). -/

namespace Sys2Proof

/-- `HEADER_LEN`: bytes in the header. -/
abbrev headerLen : Nat := 16

/-- `TRAINER_LEN`: bytes in a trainer when present. -/
abbrev trainerLen : Nat := 512

/-- `PRG_BANK`: bytes per program bank. -/
abbrev prgBank : Nat := 16384

/-- `CHR_BANK`: bytes per graphics bank. -/
abbrev chrBank : Nat := 8192

/-- `RAM_BANK`: bytes per program-RAM bank. -/
abbrev ramBank : Nat := 8192

/-- `N_DESC`: descriptors in the table. -/
abbrev nDesc : Nat := 151

/-- `INDIRECT_RENDER`: what the operand text of mode INDIRECT shows (41_instruction_table.md R158, decision D6). -/
inductive IndirectRender where
  | oneByte   -- `byte1` alone, the default
  | combine   -- the 16-bit value
deriving DecidableEq, Repr

/-- `DUP_ORDER`: which of two descriptors that share an opcode byte comes first (R160, decision D3). -/
inductive DupOrder where
  | zpxFirst
  | absyFirst
deriving DecidableEq, Repr

/-- The three named values of the parameter `TABLE` (R160). -/
inductive TableName where
  | asTranscribed (order : DupOrder)
  | canonical
deriving DecidableEq, Repr

/-- The open parameters of R4. The rules are written over an arbitrary `T`, so `table` is a list of descriptors; that it has
the facts the document settles is `Table.settled`, a part of the machine's invariant (R160). -/
structure Config where
  table             : List Descriptor
  indirectRender    : IndirectRender
  checkMagic        : Bool
  markerLead        : Text
  markerTrailPrefix : Text
  bytesFieldWidth   : Nat
  byteHexWidth      : Nat
  newline           : Text
deriving DecidableEq, Repr

end Sys2Proof
end

