-- ==== Sys2Proof/WellFormed.lean ====
section
/-! DEFINITION. Well-formed instructions and settled tables. An operand byte of any value is legal (30_encoding.md R96),
so what can be wrong with an instruction is its row: the table in force may not have it, or may shadow it. -/

namespace Sys2Proof

/-- The table has a row with this instruction's mnemonic and mode. -/
abbrev Instr.hasRow (T : List Descriptor) (i : Instr) : Prop :=
  ∃ d ∈ T, d.mnemonic = i.mnemonic ∧ d.mode = i.mode

/-- An instruction is well formed under the table `T` when `T` has a row for its mnemonic and mode and the row is not
shadowed: the first row that carries the row's opcode byte is the row's own mnemonic and mode again (R156, R163). -/
abbrev Instr.wf (T : List Descriptor) (i : Instr) : Prop :=
  ∃ d ∈ T, (d.mnemonic = i.mnemonic ∧ d.mode = i.mode) ∧ T.find? (fun x => x.opcode == d.opcode) = some d

/-- The table carries a descriptor with this opcode byte, mnemonic and mode. -/
abbrev Table.has (T : List Descriptor) (b : Byte) (m : Mnemonic) (mode : Mode) : Prop :=
  ∃ d ∈ T, d.opcode = b ∧ d.mnemonic = m ∧ d.mode = mode

/-- "The table as transcribed contains at least one duplicate opcode byte": 0x99 and 0xd9, each on a ZEROPAGE_X-shaped and
an ABSOLUTE_Y-shaped descriptor (R160, R163). "At least" leaves room for more. -/
abbrev Table.asTranscribed (T : List Descriptor) : Prop :=
  Table.has T 0x99 .sta .zeropageX ∧ Table.has T 0x99 .sta .absoluteY ∧
  Table.has T 0xd9 .cmp .zeropageX ∧ Table.has T 0xd9 .cmp .absoluteY

/-- A table whose duplicates have been resolved, as R160 says of `T_CANONICAL`: "all 151 opcode bytes are distinct". -/
abbrev Table.resolved (T : List Descriptor) : Prop := (T.map Descriptor.opcode).Nodup

/-- What the document settles of the parameter `TABLE` (R160, with R156's examples of `find`): exactly 151 descriptors,
`LDA` IMMEDIATE and `JMP` ABSOLUTE as the rows that answer 0xA9 and 0x4C, and either the two reported duplicates or, where
they have been resolved, no duplicate (log entry 19). -/
abbrev Table.settled (T : List Descriptor) : Prop :=
  T.length = nDesc ∧
  (T.find? (fun x => x.opcode == 0xa9)).map (fun d => (d.mnemonic, d.mode)) = some (.lda, .immediate) ∧
  (T.find? (fun x => x.opcode == 0x4c)).map (fun d => (d.mnemonic, d.mode)) = some (.jmp, .absolute) ∧
  (Table.asTranscribed T ∨ Table.resolved T)

end Sys2Proof
end

