-- ==== Sys2Proof/Decode.lean ====
section
/-! DEFINITION. The Instruction Table's contents and lookup, the decoder from bytes to an instruction, total on any bytes
and rejecting by name, and the encoder (30_encoding.md, 41_instruction_table.md). -/

namespace Sys2Proof

/-! ### The table's contents (41_instruction_table.md R160, R164) -/

/-- Rows 0 to 15 of 41_instruction_table.md R164. -/
def rowsAdcAnd : List Descriptor :=
  [⟨0x69, .adc, .immediate, 2, .none⟩,
   ⟨0x65, .adc, .zeropage, 3, .none⟩,
   ⟨0x75, .adc, .zeropageX, 4, .none⟩,
   ⟨0x6d, .adc, .absolute, 4, .none⟩,
   ⟨0x7d, .adc, .absoluteX, 4, .crossPage⟩,
   ⟨0x79, .adc, .absoluteY, 4, .crossPage⟩,
   ⟨0x61, .adc, .indirectX, 6, .none⟩,
   ⟨0x71, .adc, .indirectY, 5, .crossPage⟩,
   ⟨0x29, .and, .immediate, 2, .none⟩,
   ⟨0x25, .and, .zeropage, 3, .none⟩,
   ⟨0x35, .and, .zeropageX, 4, .none⟩,
   ⟨0x2d, .and, .absolute, 4, .none⟩,
   ⟨0x3d, .and, .absoluteX, 4, .crossPage⟩,
   ⟨0x39, .and, .absoluteY, 4, .crossPage⟩,
   ⟨0x21, .and, .indirectX, 6, .none⟩,
   ⟨0x31, .and, .indirectY, 5, .crossPage⟩]

/-- Rows 16 to 35 of 41_instruction_table.md R164. -/
def rowsAslToClv : List Descriptor :=
  [⟨0x0a, .asl, .accumulator, 2, .none⟩,
   ⟨0x06, .asl, .zeropage, 5, .none⟩,
   ⟨0x16, .asl, .zeropageX, 6, .none⟩,
   ⟨0x0e, .asl, .absolute, 6, .none⟩,
   ⟨0x1e, .asl, .absoluteX, 7, .none⟩,
   ⟨0x90, .bcc, .relative, 2, .branch⟩,
   ⟨0xb0, .bcs, .relative, 2, .branch⟩,
   ⟨0xf0, .beq, .relative, 2, .branch⟩,
   ⟨0x24, .bit, .zeropage, 3, .none⟩,
   ⟨0x2c, .bit, .absolute, 4, .none⟩,
   ⟨0x30, .bmi, .relative, 2, .branch⟩,
   ⟨0xd0, .bne, .relative, 2, .branch⟩,
   ⟨0x10, .bpl, .relative, 2, .branch⟩,
   ⟨0x00, .brk, .implied, 7, .none⟩,
   ⟨0x50, .bvc, .relative, 2, .branch⟩,
   ⟨0x70, .bvs, .relative, 2, .branch⟩,
   ⟨0x18, .clc, .implied, 2, .none⟩,
   ⟨0xd8, .cld, .implied, 2, .none⟩,
   ⟨0x58, .cli, .implied, 2, .none⟩,
   ⟨0xb8, .clv, .implied, 2, .none⟩]

/-- Rows 44 to 63 of 41_instruction_table.md R164. -/
def rowsCpxToEor : List Descriptor :=
  [⟨0xe0, .cpx, .immediate, 2, .none⟩,
   ⟨0xe4, .cpx, .zeropage, 3, .none⟩,
   ⟨0xec, .cpx, .absolute, 4, .none⟩,
   ⟨0xc0, .cpy, .immediate, 2, .none⟩,
   ⟨0xc4, .cpy, .zeropage, 3, .none⟩,
   ⟨0xcc, .cpy, .absolute, 4, .none⟩,
   ⟨0xc6, .dec, .zeropage, 5, .none⟩,
   ⟨0xd6, .dec, .zeropageX, 6, .none⟩,
   ⟨0xce, .dec, .absolute, 6, .none⟩,
   ⟨0xde, .dec, .absoluteX, 7, .none⟩,
   ⟨0xca, .dex, .implied, 2, .none⟩,
   ⟨0x88, .dey, .implied, 2, .none⟩,
   ⟨0x49, .eor, .immediate, 2, .none⟩,
   ⟨0x45, .eor, .zeropage, 3, .none⟩,
   ⟨0x55, .eor, .zeropageX, 4, .none⟩,
   ⟨0x4d, .eor, .absolute, 4, .none⟩,
   ⟨0x5d, .eor, .absoluteX, 4, .crossPage⟩,
   ⟨0x59, .eor, .absoluteY, 4, .crossPage⟩,
   ⟨0x41, .eor, .indirectX, 6, .none⟩,
   ⟨0x51, .eor, .indirectY, 5, .crossPage⟩]

/-- Rows 64 to 72 of 41_instruction_table.md R164. -/
def rowsIncToJsr : List Descriptor :=
  [⟨0xe6, .inc, .zeropage, 5, .none⟩,
   ⟨0xf6, .inc, .zeropageX, 6, .none⟩,
   ⟨0xee, .inc, .absolute, 6, .none⟩,
   ⟨0xfe, .inc, .absoluteX, 7, .none⟩,
   ⟨0xe8, .inx, .implied, 2, .none⟩,
   ⟨0xc8, .iny, .implied, 2, .none⟩,
   ⟨0x4c, .jmp, .absolute, 3, .none⟩,
   ⟨0x6c, .jmp, .indirect, 5, .none⟩,
   ⟨0x20, .jsr, .absolute, 6, .none⟩]

/-- Rows 73 to 90 of 41_instruction_table.md R164. -/
def rowsLdaToLdy : List Descriptor :=
  [⟨0xa9, .lda, .immediate, 2, .none⟩,
   ⟨0xa5, .lda, .zeropage, 3, .none⟩,
   ⟨0xb5, .lda, .zeropageX, 4, .none⟩,
   ⟨0xad, .lda, .absolute, 4, .none⟩,
   ⟨0xbd, .lda, .absoluteX, 4, .crossPage⟩,
   ⟨0xb9, .lda, .absoluteY, 4, .crossPage⟩,
   ⟨0xa1, .lda, .indirectX, 6, .none⟩,
   ⟨0xb1, .lda, .indirectY, 5, .crossPage⟩,
   ⟨0xa2, .ldx, .immediate, 2, .none⟩,
   ⟨0xa6, .ldx, .zeropage, 3, .none⟩,
   ⟨0xb6, .ldx, .zeropageY, 4, .none⟩,
   ⟨0xae, .ldx, .absolute, 4, .none⟩,
   ⟨0xbe, .ldx, .absoluteY, 4, .crossPage⟩,
   ⟨0xa0, .ldy, .immediate, 2, .none⟩,
   ⟨0xa4, .ldy, .zeropage, 3, .none⟩,
   ⟨0xb4, .ldy, .zeropageX, 4, .none⟩,
   ⟨0xac, .ldy, .absolute, 4, .none⟩,
   ⟨0xbc, .ldy, .absoluteX, 4, .crossPage⟩]

/-- Rows 91 to 108 of 41_instruction_table.md R164. -/
def rowsLsrToPlp : List Descriptor :=
  [⟨0x4a, .lsr, .accumulator, 2, .none⟩,
   ⟨0x46, .lsr, .zeropage, 5, .none⟩,
   ⟨0x56, .lsr, .zeropageX, 6, .none⟩,
   ⟨0x4e, .lsr, .absolute, 6, .none⟩,
   ⟨0x5e, .lsr, .absoluteX, 7, .none⟩,
   ⟨0xea, .nop, .implied, 2, .none⟩,
   ⟨0x09, .ora, .immediate, 2, .none⟩,
   ⟨0x05, .ora, .zeropage, 3, .none⟩,
   ⟨0x15, .ora, .zeropageX, 4, .none⟩,
   ⟨0x0d, .ora, .absolute, 4, .none⟩,
   ⟨0x1d, .ora, .absoluteX, 4, .crossPage⟩,
   ⟨0x19, .ora, .absoluteY, 4, .crossPage⟩,
   ⟨0x01, .ora, .indirectX, 6, .none⟩,
   ⟨0x11, .ora, .indirectY, 5, .crossPage⟩,
   ⟨0x48, .pha, .implied, 3, .none⟩,
   ⟨0x08, .php, .implied, 3, .none⟩,
   ⟨0x68, .pla, .implied, 4, .none⟩,
   ⟨0x28, .plp, .implied, 4, .none⟩]

/-- Rows 109 to 120 of 41_instruction_table.md R164. -/
def rowsRolToRts : List Descriptor :=
  [⟨0x2a, .rol, .accumulator, 2, .none⟩,
   ⟨0x26, .rol, .zeropage, 5, .none⟩,
   ⟨0x36, .rol, .zeropageX, 6, .none⟩,
   ⟨0x2e, .rol, .absolute, 6, .none⟩,
   ⟨0x3e, .rol, .absoluteX, 7, .none⟩,
   ⟨0x6a, .ror, .accumulator, 2, .none⟩,
   ⟨0x66, .ror, .zeropage, 5, .none⟩,
   ⟨0x76, .ror, .zeropageX, 6, .none⟩,
   ⟨0x6e, .ror, .absolute, 6, .none⟩,
   ⟨0x7e, .ror, .absoluteX, 7, .none⟩,
   ⟨0x40, .rti, .implied, 6, .none⟩,
   ⟨0x60, .rts, .implied, 6, .none⟩]

/-- Rows 121 to 131 of 41_instruction_table.md R164. -/
def rowsSbcToSei : List Descriptor :=
  [⟨0xe9, .sbc, .immediate, 2, .none⟩,
   ⟨0xe5, .sbc, .zeropage, 3, .none⟩,
   ⟨0xf5, .sbc, .zeropageX, 4, .none⟩,
   ⟨0xed, .sbc, .absolute, 4, .none⟩,
   ⟨0xfd, .sbc, .absoluteX, 4, .crossPage⟩,
   ⟨0xf9, .sbc, .absoluteY, 4, .crossPage⟩,
   ⟨0xe1, .sbc, .indirectX, 6, .none⟩,
   ⟨0xf1, .sbc, .indirectY, 5, .crossPage⟩,
   ⟨0x38, .sec, .implied, 2, .none⟩,
   ⟨0xf8, .sed, .implied, 2, .none⟩,
   ⟨0x78, .sei, .implied, 2, .none⟩]

/-- Rows 139 to 150 of 41_instruction_table.md R164. -/
def rowsStxToTya : List Descriptor :=
  [⟨0x86, .stx, .zeropage, 3, .none⟩,
   ⟨0x96, .stx, .zeropageY, 4, .none⟩,
   ⟨0x8e, .stx, .absolute, 4, .none⟩,
   ⟨0x84, .sty, .zeropage, 3, .none⟩,
   ⟨0x94, .sty, .zeropageX, 4, .none⟩,
   ⟨0x8c, .sty, .absolute, 4, .none⟩,
   ⟨0xaa, .tax, .implied, 2, .none⟩,
   ⟨0xa8, .tay, .implied, 2, .none⟩,
   ⟨0xba, .tsx, .implied, 2, .none⟩,
   ⟨0x8a, .txa, .implied, 2, .none⟩,
   ⟨0x9a, .txs, .implied, 2, .none⟩,
   ⟨0x98, .tya, .implied, 2, .none⟩]

/-- The `CMP` rows of R164 (36 to 43), ZEROPAGE_X before ABSOLUTE_Y; both carry 0xd9 (R163). -/
def rowsCmp : List Descriptor :=
  [⟨0xc9, .cmp, .immediate, 2, .none⟩,
   ⟨0xc5, .cmp, .zeropage, 3, .none⟩,
   ⟨0xd9, .cmp, .zeropageX, 4, .none⟩,
   ⟨0xcd, .cmp, .absolute, 4, .none⟩,
   ⟨0xdd, .cmp, .absoluteX, 4, .crossPage⟩,
   ⟨0xd9, .cmp, .absoluteY, 4, .crossPage⟩,
   ⟨0xc1, .cmp, .indirectX, 6, .none⟩,
   ⟨0xd1, .cmp, .indirectY, 5, .crossPage⟩]

/-- The `CMP` rows with the ABSOLUTE_Y row moved in front of its ZEROPAGE_X partner (R160, `ABSY_FIRST`). -/
def rowsCmpAbsyFirst : List Descriptor :=
  [⟨0xc9, .cmp, .immediate, 2, .none⟩,
   ⟨0xc5, .cmp, .zeropage, 3, .none⟩,
   ⟨0xd9, .cmp, .absoluteY, 4, .crossPage⟩,
   ⟨0xd9, .cmp, .zeropageX, 4, .none⟩,
   ⟨0xcd, .cmp, .absolute, 4, .none⟩,
   ⟨0xdd, .cmp, .absoluteX, 4, .crossPage⟩,
   ⟨0xc1, .cmp, .indirectX, 6, .none⟩,
   ⟨0xd1, .cmp, .indirectY, 5, .crossPage⟩]

/-- The `CMP` rows of `T_CANONICAL`: ZEROPAGE_X carries 0xd5 (R160). -/
def rowsCmpCanonical : List Descriptor :=
  [⟨0xc9, .cmp, .immediate, 2, .none⟩,
   ⟨0xc5, .cmp, .zeropage, 3, .none⟩,
   ⟨0xd5, .cmp, .zeropageX, 4, .none⟩,
   ⟨0xcd, .cmp, .absolute, 4, .none⟩,
   ⟨0xdd, .cmp, .absoluteX, 4, .crossPage⟩,
   ⟨0xd9, .cmp, .absoluteY, 4, .crossPage⟩,
   ⟨0xc1, .cmp, .indirectX, 6, .none⟩,
   ⟨0xd1, .cmp, .indirectY, 5, .crossPage⟩]

/-- The `STA` rows of R164 (132 to 138), ZEROPAGE_X before ABSOLUTE_Y; both carry 0x99 (R163). -/
def rowsSta : List Descriptor :=
  [⟨0x85, .sta, .zeropage, 3, .none⟩,
   ⟨0x99, .sta, .zeropageX, 4, .none⟩,
   ⟨0x8d, .sta, .absolute, 4, .none⟩,
   ⟨0x9d, .sta, .absoluteX, 5, .none⟩,
   ⟨0x99, .sta, .absoluteY, 5, .none⟩,
   ⟨0x81, .sta, .indirectX, 6, .none⟩,
   ⟨0x91, .sta, .indirectY, 6, .none⟩]

/-- The `STA` rows with the ABSOLUTE_Y row moved in front of its ZEROPAGE_X partner (R160, `ABSY_FIRST`). -/
def rowsStaAbsyFirst : List Descriptor :=
  [⟨0x85, .sta, .zeropage, 3, .none⟩,
   ⟨0x99, .sta, .absoluteY, 5, .none⟩,
   ⟨0x99, .sta, .zeropageX, 4, .none⟩,
   ⟨0x8d, .sta, .absolute, 4, .none⟩,
   ⟨0x9d, .sta, .absoluteX, 5, .none⟩,
   ⟨0x81, .sta, .indirectX, 6, .none⟩,
   ⟨0x91, .sta, .indirectY, 6, .none⟩]

/-- The `STA` rows of `T_CANONICAL`: ZEROPAGE_X carries 0x95 (R160). -/
def rowsStaCanonical : List Descriptor :=
  [⟨0x85, .sta, .zeropage, 3, .none⟩,
   ⟨0x95, .sta, .zeropageX, 4, .none⟩,
   ⟨0x8d, .sta, .absolute, 4, .none⟩,
   ⟨0x9d, .sta, .absoluteX, 5, .none⟩,
   ⟨0x99, .sta, .absoluteY, 5, .none⟩,
   ⟨0x81, .sta, .indirectX, 6, .none⟩,
   ⟨0x91, .sta, .indirectY, 6, .none⟩]

/-- The table with the given `CMP` and `STA` rows, in the order of R161. -/
def tableWith (cmp sta : List Descriptor) : List Descriptor :=
  rowsAdcAnd ++ rowsAslToClv ++ cmp ++ rowsCpxToEor ++ rowsIncToJsr ++ rowsLdaToLdy ++ rowsLsrToPlp ++
    rowsRolToRts ++ rowsSbcToSei ++ sta ++ rowsStxToTya

/-- The three named values of the parameter `TABLE` (R160). -/
def TableName.rows : TableName → List Descriptor
  | .asTranscribed .zpxFirst  => tableWith rowsCmp rowsSta
  | .asTranscribed .absyFirst => tableWith rowsCmpAbsyFirst rowsStaAbsyFirst
  | .canonical                => tableWith rowsCmpCanonical rowsStaCanonical

/-- The default value of every parameter (00_scope.md R4; decisions D2, D3, D6, D10, D11, D12, D15, D16). -/
def Config.default : Config where
  table             := TableName.rows (.asTranscribed .zpxFirst)
  indirectRender    := .oneByte
  checkMagic        := true
  markerLead        := ['*', ' ', '=', ' ', '0', '0', '0', '0']
  markerTrailPrefix := ['.', 'E', 'N', 'D', ' ']
  bytesFieldWidth   := 8
  byteHexWidth      := 2
  newline           := ['\n']

/-! ### Lookup and length -/

/-- `find`: "linear scan returning the first match; absence signals an unrecognized opcode" (R156). -/
def find (T : List Descriptor) (b : Byte) : Option Descriptor :=
  T.find? (fun d => d.opcode == b)

/-- `len(mode)`: the total instruction length in bytes, the opcode byte included (R154). -/
def Mode.len : Mode → Nat
  | .accumulator | .implied => 1
  | .immediate | .zeropage | .zeropageX | .zeropageY | .relative | .indirectX | .indirectY => 2
  | .absolute | .absoluteX | .absoluteY | .indirect => 3

/-! ### From a row to an instruction -/

/-- The ACCUMULATOR instruction of a mnemonic, where the table has one (R200). -/
def Instr.ofAccumulator : Mnemonic → Option Instr
  | ⟨.a, .s, .l⟩ => some (.aslAccumulator)
  | ⟨.l, .s, .r⟩ => some (.lsrAccumulator)
  | ⟨.r, .o, .l⟩ => some (.rolAccumulator)
  | ⟨.r, .o, .r⟩ => some (.rorAccumulator)
  | _ => none

/-- The IMPLIED instruction of a mnemonic, where the table has one (R205). -/
def Instr.ofImplied : Mnemonic → Option Instr
  | ⟨.b, .r, .k⟩ => some (.brkImplied)
  | ⟨.c, .l, .c⟩ => some (.clcImplied)
  | ⟨.c, .l, .d⟩ => some (.cldImplied)
  | ⟨.c, .l, .i⟩ => some (.cliImplied)
  | ⟨.c, .l, .v⟩ => some (.clvImplied)
  | ⟨.d, .e, .x⟩ => some (.dexImplied)
  | ⟨.d, .e, .y⟩ => some (.deyImplied)
  | ⟨.i, .n, .x⟩ => some (.inxImplied)
  | ⟨.i, .n, .y⟩ => some (.inyImplied)
  | ⟨.n, .o, .p⟩ => some (.nopImplied)
  | ⟨.p, .h, .a⟩ => some (.phaImplied)
  | ⟨.p, .h, .p⟩ => some (.phpImplied)
  | ⟨.p, .l, .a⟩ => some (.plaImplied)
  | ⟨.p, .l, .p⟩ => some (.plpImplied)
  | ⟨.r, .t, .i⟩ => some (.rtiImplied)
  | ⟨.r, .t, .s⟩ => some (.rtsImplied)
  | ⟨.s, .e, .c⟩ => some (.secImplied)
  | ⟨.s, .e, .d⟩ => some (.sedImplied)
  | ⟨.s, .e, .i⟩ => some (.seiImplied)
  | ⟨.t, .a, .x⟩ => some (.taxImplied)
  | ⟨.t, .a, .y⟩ => some (.tayImplied)
  | ⟨.t, .s, .x⟩ => some (.tsxImplied)
  | ⟨.t, .x, .a⟩ => some (.txaImplied)
  | ⟨.t, .x, .s⟩ => some (.txsImplied)
  | ⟨.t, .y, .a⟩ => some (.tyaImplied)
  | _ => none

/-- The IMMEDIATE instruction of a mnemonic, where the table has one (R240). -/
def Instr.ofImmediate : Mnemonic → Byte → Option Instr
  | ⟨.a, .d, .c⟩, byte1 => some (.adcImmediate byte1)
  | ⟨.a, .n, .d⟩, byte1 => some (.andImmediate byte1)
  | ⟨.c, .m, .p⟩, byte1 => some (.cmpImmediate byte1)
  | ⟨.c, .p, .x⟩, byte1 => some (.cpxImmediate byte1)
  | ⟨.c, .p, .y⟩, byte1 => some (.cpyImmediate byte1)
  | ⟨.e, .o, .r⟩, byte1 => some (.eorImmediate byte1)
  | ⟨.l, .d, .a⟩, byte1 => some (.ldaImmediate byte1)
  | ⟨.l, .d, .x⟩, byte1 => some (.ldxImmediate byte1)
  | ⟨.l, .d, .y⟩, byte1 => some (.ldyImmediate byte1)
  | ⟨.o, .r, .a⟩, byte1 => some (.oraImmediate byte1)
  | ⟨.s, .b, .c⟩, byte1 => some (.sbcImmediate byte1)
  | _, _ => none

/-- The ZEROPAGE instruction of a mnemonic, where the table has one (R252). -/
def Instr.ofZeropage : Mnemonic → Byte → Option Instr
  | ⟨.a, .d, .c⟩, byte1 => some (.adcZeropage byte1)
  | ⟨.a, .n, .d⟩, byte1 => some (.andZeropage byte1)
  | ⟨.a, .s, .l⟩, byte1 => some (.aslZeropage byte1)
  | ⟨.b, .i, .t⟩, byte1 => some (.bitZeropage byte1)
  | ⟨.c, .m, .p⟩, byte1 => some (.cmpZeropage byte1)
  | ⟨.c, .p, .x⟩, byte1 => some (.cpxZeropage byte1)
  | ⟨.c, .p, .y⟩, byte1 => some (.cpyZeropage byte1)
  | ⟨.d, .e, .c⟩, byte1 => some (.decZeropage byte1)
  | ⟨.e, .o, .r⟩, byte1 => some (.eorZeropage byte1)
  | ⟨.i, .n, .c⟩, byte1 => some (.incZeropage byte1)
  | ⟨.l, .d, .a⟩, byte1 => some (.ldaZeropage byte1)
  | ⟨.l, .d, .x⟩, byte1 => some (.ldxZeropage byte1)
  | ⟨.l, .d, .y⟩, byte1 => some (.ldyZeropage byte1)
  | ⟨.l, .s, .r⟩, byte1 => some (.lsrZeropage byte1)
  | ⟨.o, .r, .a⟩, byte1 => some (.oraZeropage byte1)
  | ⟨.r, .o, .l⟩, byte1 => some (.rolZeropage byte1)
  | ⟨.r, .o, .r⟩, byte1 => some (.rorZeropage byte1)
  | ⟨.s, .b, .c⟩, byte1 => some (.sbcZeropage byte1)
  | ⟨.s, .t, .a⟩, byte1 => some (.staZeropage byte1)
  | ⟨.s, .t, .x⟩, byte1 => some (.stxZeropage byte1)
  | ⟨.s, .t, .y⟩, byte1 => some (.styZeropage byte1)
  | _, _ => none

/-- The ZEROPAGE_X instruction of a mnemonic, where the table has one (R274). -/
def Instr.ofZeropageX : Mnemonic → Byte → Option Instr
  | ⟨.a, .d, .c⟩, byte1 => some (.adcZeropageX byte1)
  | ⟨.a, .n, .d⟩, byte1 => some (.andZeropageX byte1)
  | ⟨.a, .s, .l⟩, byte1 => some (.aslZeropageX byte1)
  | ⟨.c, .m, .p⟩, byte1 => some (.cmpZeropageX byte1)
  | ⟨.d, .e, .c⟩, byte1 => some (.decZeropageX byte1)
  | ⟨.e, .o, .r⟩, byte1 => some (.eorZeropageX byte1)
  | ⟨.i, .n, .c⟩, byte1 => some (.incZeropageX byte1)
  | ⟨.l, .d, .a⟩, byte1 => some (.ldaZeropageX byte1)
  | ⟨.l, .d, .y⟩, byte1 => some (.ldyZeropageX byte1)
  | ⟨.l, .s, .r⟩, byte1 => some (.lsrZeropageX byte1)
  | ⟨.o, .r, .a⟩, byte1 => some (.oraZeropageX byte1)
  | ⟨.r, .o, .l⟩, byte1 => some (.rolZeropageX byte1)
  | ⟨.r, .o, .r⟩, byte1 => some (.rorZeropageX byte1)
  | ⟨.s, .b, .c⟩, byte1 => some (.sbcZeropageX byte1)
  | ⟨.s, .t, .a⟩, byte1 => some (.staZeropageX byte1)
  | ⟨.s, .t, .y⟩, byte1 => some (.styZeropageX byte1)
  | _, _ => none

/-- The ZEROPAGE_Y instruction of a mnemonic, where the table has one (R291). -/
def Instr.ofZeropageY : Mnemonic → Byte → Option Instr
  | ⟨.l, .d, .x⟩, byte1 => some (.ldxZeropageY byte1)
  | ⟨.s, .t, .x⟩, byte1 => some (.stxZeropageY byte1)
  | _, _ => none

/-- The RELATIVE instruction of a mnemonic, where the table has one (R294). -/
def Instr.ofRelative : Mnemonic → Byte → Option Instr
  | ⟨.b, .c, .c⟩, byte1 => some (.bccRelative byte1)
  | ⟨.b, .c, .s⟩, byte1 => some (.bcsRelative byte1)
  | ⟨.b, .e, .q⟩, byte1 => some (.beqRelative byte1)
  | ⟨.b, .m, .i⟩, byte1 => some (.bmiRelative byte1)
  | ⟨.b, .n, .e⟩, byte1 => some (.bneRelative byte1)
  | ⟨.b, .p, .l⟩, byte1 => some (.bplRelative byte1)
  | ⟨.b, .v, .c⟩, byte1 => some (.bvcRelative byte1)
  | ⟨.b, .v, .s⟩, byte1 => some (.bvsRelative byte1)
  | _, _ => none

/-- The INDIRECT_X instruction of a mnemonic, where the table has one (R303). -/
def Instr.ofIndirectX : Mnemonic → Byte → Option Instr
  | ⟨.a, .d, .c⟩, byte1 => some (.adcIndirectX byte1)
  | ⟨.a, .n, .d⟩, byte1 => some (.andIndirectX byte1)
  | ⟨.c, .m, .p⟩, byte1 => some (.cmpIndirectX byte1)
  | ⟨.e, .o, .r⟩, byte1 => some (.eorIndirectX byte1)
  | ⟨.l, .d, .a⟩, byte1 => some (.ldaIndirectX byte1)
  | ⟨.o, .r, .a⟩, byte1 => some (.oraIndirectX byte1)
  | ⟨.s, .b, .c⟩, byte1 => some (.sbcIndirectX byte1)
  | ⟨.s, .t, .a⟩, byte1 => some (.staIndirectX byte1)
  | _, _ => none

/-- The INDIRECT_Y instruction of a mnemonic, where the table has one (R312). -/
def Instr.ofIndirectY : Mnemonic → Byte → Option Instr
  | ⟨.a, .d, .c⟩, byte1 => some (.adcIndirectY byte1)
  | ⟨.a, .n, .d⟩, byte1 => some (.andIndirectY byte1)
  | ⟨.c, .m, .p⟩, byte1 => some (.cmpIndirectY byte1)
  | ⟨.e, .o, .r⟩, byte1 => some (.eorIndirectY byte1)
  | ⟨.l, .d, .a⟩, byte1 => some (.ldaIndirectY byte1)
  | ⟨.o, .r, .a⟩, byte1 => some (.oraIndirectY byte1)
  | ⟨.s, .b, .c⟩, byte1 => some (.sbcIndirectY byte1)
  | ⟨.s, .t, .a⟩, byte1 => some (.staIndirectY byte1)
  | _, _ => none

/-- The ABSOLUTE instruction of a mnemonic, where the table has one (R330). -/
def Instr.ofAbsolute : Mnemonic → Byte → Byte → Option Instr
  | ⟨.a, .d, .c⟩, byte1, byte2 => some (.adcAbsolute byte1 byte2)
  | ⟨.a, .n, .d⟩, byte1, byte2 => some (.andAbsolute byte1 byte2)
  | ⟨.a, .s, .l⟩, byte1, byte2 => some (.aslAbsolute byte1 byte2)
  | ⟨.b, .i, .t⟩, byte1, byte2 => some (.bitAbsolute byte1 byte2)
  | ⟨.c, .m, .p⟩, byte1, byte2 => some (.cmpAbsolute byte1 byte2)
  | ⟨.c, .p, .x⟩, byte1, byte2 => some (.cpxAbsolute byte1 byte2)
  | ⟨.c, .p, .y⟩, byte1, byte2 => some (.cpyAbsolute byte1 byte2)
  | ⟨.d, .e, .c⟩, byte1, byte2 => some (.decAbsolute byte1 byte2)
  | ⟨.e, .o, .r⟩, byte1, byte2 => some (.eorAbsolute byte1 byte2)
  | ⟨.i, .n, .c⟩, byte1, byte2 => some (.incAbsolute byte1 byte2)
  | ⟨.j, .m, .p⟩, byte1, byte2 => some (.jmpAbsolute byte1 byte2)
  | ⟨.j, .s, .r⟩, byte1, byte2 => some (.jsrAbsolute byte1 byte2)
  | ⟨.l, .d, .a⟩, byte1, byte2 => some (.ldaAbsolute byte1 byte2)
  | ⟨.l, .d, .x⟩, byte1, byte2 => some (.ldxAbsolute byte1 byte2)
  | ⟨.l, .d, .y⟩, byte1, byte2 => some (.ldyAbsolute byte1 byte2)
  | ⟨.l, .s, .r⟩, byte1, byte2 => some (.lsrAbsolute byte1 byte2)
  | ⟨.o, .r, .a⟩, byte1, byte2 => some (.oraAbsolute byte1 byte2)
  | ⟨.r, .o, .l⟩, byte1, byte2 => some (.rolAbsolute byte1 byte2)
  | ⟨.r, .o, .r⟩, byte1, byte2 => some (.rorAbsolute byte1 byte2)
  | ⟨.s, .b, .c⟩, byte1, byte2 => some (.sbcAbsolute byte1 byte2)
  | ⟨.s, .t, .a⟩, byte1, byte2 => some (.staAbsolute byte1 byte2)
  | ⟨.s, .t, .x⟩, byte1, byte2 => some (.stxAbsolute byte1 byte2)
  | ⟨.s, .t, .y⟩, byte1, byte2 => some (.styAbsolute byte1 byte2)
  | _, _, _ => none

/-- The ABSOLUTE_X instruction of a mnemonic, where the table has one (R354). -/
def Instr.ofAbsoluteX : Mnemonic → Byte → Byte → Option Instr
  | ⟨.a, .d, .c⟩, byte1, byte2 => some (.adcAbsoluteX byte1 byte2)
  | ⟨.a, .n, .d⟩, byte1, byte2 => some (.andAbsoluteX byte1 byte2)
  | ⟨.a, .s, .l⟩, byte1, byte2 => some (.aslAbsoluteX byte1 byte2)
  | ⟨.c, .m, .p⟩, byte1, byte2 => some (.cmpAbsoluteX byte1 byte2)
  | ⟨.d, .e, .c⟩, byte1, byte2 => some (.decAbsoluteX byte1 byte2)
  | ⟨.e, .o, .r⟩, byte1, byte2 => some (.eorAbsoluteX byte1 byte2)
  | ⟨.i, .n, .c⟩, byte1, byte2 => some (.incAbsoluteX byte1 byte2)
  | ⟨.l, .d, .a⟩, byte1, byte2 => some (.ldaAbsoluteX byte1 byte2)
  | ⟨.l, .d, .y⟩, byte1, byte2 => some (.ldyAbsoluteX byte1 byte2)
  | ⟨.l, .s, .r⟩, byte1, byte2 => some (.lsrAbsoluteX byte1 byte2)
  | ⟨.o, .r, .a⟩, byte1, byte2 => some (.oraAbsoluteX byte1 byte2)
  | ⟨.r, .o, .l⟩, byte1, byte2 => some (.rolAbsoluteX byte1 byte2)
  | ⟨.r, .o, .r⟩, byte1, byte2 => some (.rorAbsoluteX byte1 byte2)
  | ⟨.s, .b, .c⟩, byte1, byte2 => some (.sbcAbsoluteX byte1 byte2)
  | ⟨.s, .t, .a⟩, byte1, byte2 => some (.staAbsoluteX byte1 byte2)
  | _, _, _ => none

/-- The ABSOLUTE_Y instruction of a mnemonic, where the table has one (R370). -/
def Instr.ofAbsoluteY : Mnemonic → Byte → Byte → Option Instr
  | ⟨.a, .d, .c⟩, byte1, byte2 => some (.adcAbsoluteY byte1 byte2)
  | ⟨.a, .n, .d⟩, byte1, byte2 => some (.andAbsoluteY byte1 byte2)
  | ⟨.c, .m, .p⟩, byte1, byte2 => some (.cmpAbsoluteY byte1 byte2)
  | ⟨.e, .o, .r⟩, byte1, byte2 => some (.eorAbsoluteY byte1 byte2)
  | ⟨.l, .d, .a⟩, byte1, byte2 => some (.ldaAbsoluteY byte1 byte2)
  | ⟨.l, .d, .x⟩, byte1, byte2 => some (.ldxAbsoluteY byte1 byte2)
  | ⟨.o, .r, .a⟩, byte1, byte2 => some (.oraAbsoluteY byte1 byte2)
  | ⟨.s, .b, .c⟩, byte1, byte2 => some (.sbcAbsoluteY byte1 byte2)
  | ⟨.s, .t, .a⟩, byte1, byte2 => some (.staAbsoluteY byte1 byte2)
  | _, _, _ => none

/-- The INDIRECT instruction of a mnemonic, where the table has one (R380). -/
def Instr.ofIndirect : Mnemonic → Byte → Byte → Option Instr
  | ⟨.j, .m, .p⟩, byte1, byte2 => some (.jmpIndirect byte1 byte2)
  | _, _, _ => none

/-- The instruction with a given mnemonic, mode and operand bytes; none where no row of `spec/opcode_table.json` has the
mnemonic and mode together, or where the operand bytes are not as many as the mode's format has. -/
def Instr.ofRow (m : Mnemonic) (mode : Mode) (operands : List Byte) : Option Instr :=
  match mode, operands with
  | .accumulator, [] => Instr.ofAccumulator m
  | .implied, [] => Instr.ofImplied m
  | .immediate, [byte1] => Instr.ofImmediate m byte1
  | .zeropage, [byte1] => Instr.ofZeropage m byte1
  | .zeropageX, [byte1] => Instr.ofZeropageX m byte1
  | .zeropageY, [byte1] => Instr.ofZeropageY m byte1
  | .relative, [byte1] => Instr.ofRelative m byte1
  | .indirectX, [byte1] => Instr.ofIndirectX m byte1
  | .indirectY, [byte1] => Instr.ofIndirectY m byte1
  | .absolute, [byte1, byte2] => Instr.ofAbsolute m byte1 byte2
  | .absoluteX, [byte1, byte2] => Instr.ofAbsoluteX m byte1 byte2
  | .absoluteY, [byte1, byte2] => Instr.ofAbsoluteY m byte1 byte2
  | .indirect, [byte1, byte2] => Instr.ofIndirect m byte1 byte2
  | _, _ => none

/-! ### The decoder -/

/-- Why the decoder gives no instruction. -/
inductive DecodeReject where
  /-- There is no byte to look up. -/
  | noByte
  /-- `find` does not recognise the opcode byte (R99): the engine skips it. -/
  | unrecognised (b : Byte)
  /-- Fewer bytes stand here than the row's mode needs (42_engine.md R174): the engine is exhausted. -/
  | truncated (d : Descriptor)
  /-- The table's row pairs a mnemonic and a mode that no row of `spec/opcode_table.json` pairs; such a row can only
  stand in a table other than the three named ones, one that spells a mnemonic otherwise among them (log entry 21). -/
  | noInstruction (d : Descriptor)
deriving DecidableEq, Repr

/-- What the decoder answers: an instruction and the bytes after it, or a rejection by name. -/
inductive DecodeResult where
  | instr (i : Instr) (rest : List Byte)
  | rejected (why : DecodeReject)
deriving DecidableEq, Repr

/-- Decode the instruction at the head of a byte sequence (30_encoding.md R90, R95): the opcode byte alone selects the
row, the row's mode alone gives the length, and the operand bytes follow in ascending order. -/
def decode (T : List Descriptor) : List Byte → DecodeResult
  | [] => .rejected .noByte
  | b :: rest =>
    match find T b with
    | none => .rejected (.unrecognised b)
    | some d =>
      if rest.length + 1 < d.mode.len then .rejected (.truncated d)
      else
        match Instr.ofRow d.mnemonic d.mode (rest.take (d.mode.len - 1)) with
        | some i => .instr i (rest.drop (d.mode.len - 1))
        | none => .rejected (.noInstruction d)

/-! ### The encoder -/

/-- The opcode byte the table gives a mnemonic and mode: that of its first row for them that is not shadowed. -/
def opcodeOf (T : List Descriptor) (m : Mnemonic) (mode : Mode) : Option Byte :=
  (T.find? (fun d => d.mnemonic == m && d.mode == mode && find T d.opcode == some d)).map Descriptor.opcode

/-- The bytes of a well-formed instruction: the opcode byte of its row, then the operand bytes (R91, R92, R93). No bytes
for an instruction that is not well formed under the table. -/
def encode (T : List Descriptor) (i : Instr) : List Byte :=
  match opcodeOf T i.mnemonic i.mode with
  | some opcode => opcode :: i.operands
  | none => []

/-! ### The host's view of a table word -/

/-- The longest instruction's three bytes of a word whose bit 0 is the least significant bit of the first byte; bits at
`nbits` and above are zero. -/
def tableWordBytes (nbits w : Nat) : List Byte :=
  let v := w % 2 ^ nbits
  [BitVec.ofNat 8 v, BitVec.ofNat 8 (v / 256), BitVec.ofNat 8 (v / 65536)]

/-- The instruction the decoder reads, under the default table, from an instruction whose bits are `w`. -/
def decodeTableWord (nbits w : Nat) : Option Instr :=
  match decode Config.default.table (tableWordBytes nbits w) with
  | .instr i _ => some i
  | .rejected _ => none

end Sys2Proof
end

