-- ==== Sys2Proof/Machine/State.lean ====
section
/-! DEFINITION. The machine's state as plain data (10_state.md R20), what a transaction is given and answers
(00_scope.md R12), the reasons a step stops, and the state at reset (10_state.md R47, 70_reset_and_hazards.md R430). -/

namespace Sys2Proof.Machine

/-! ### The byte spaces (20_memory.md R60, R62) -/

/-- A byte space: the cells that exist, by strictly rising offset. An offset that is not listed has no byte: a read of it
has no value (R76; log entry 9). -/
structure Memory where
  cells : List Host.Cell
deriving DecidableEq, Repr

/-- The canonical form: offsets strictly rising. No cell can equal what an unlisted offset reads as, since such an offset
reads as nothing. -/
abbrev Memory.wf (m : Memory) : Prop :=
  (m.cells.map Prod.fst).Pairwise (· < ·)

/-- The form of a buffer of the container (10_state.md R39, 00_scope.md R6): indexed from 0, with no gap. -/
abbrev Memory.isRegion (m : Memory) : Prop :=
  m.cells.map Prod.fst = List.range m.cells.length

/-! ### The ROM Container (10_state.md section 4) -/

/-- The 14 header fields `HDR.*`, each a register written once by a successful `load` (R24 to R37). -/
structure Header where
  mirroring           : BitVec 1
  hasPersistentRam    : BitVec 1
  hasTrainer          : BitVec 1
  fourScreen          : BitVec 1
  mapperLowNibble     : BitVec 4
  vsUnisystem         : BitVec 1
  playchoice10        : BitVec 1
  isInes2             : Bool
  mapperHighNibble    : BitVec 4
  mapper              : BitVec 8
  programSizeBytes    : Nat
  graphicsSizeBytes   : Nat
  programRamSizeBytes : Nat
  tvSystem            : BitVec 1
deriving DecidableEq, Repr

/-- What a successful `load` builds: the header and the three buffers (R20, R39). -/
structure Container where
  hdr : Header
  trn : Memory
  prg : Memory
  chr : Memory
deriving DecidableEq, Repr

/-- The container's status together with what has a value in it. "When `CST` is not `LOADED` the fields `HDR.*` and the
buffers have no value: a model must make them unreadable" (R23): only `loaded` carries them. -/
inductive Rom where
  | empty
  | loaded (c : Container)
  | failedIo
  | failedFormat
deriving DecidableEq, Repr

/-- The four values of the register `CST` (R23). -/
inductive Cst where
  | empty
  | loaded
  | failedIo
  | failedFormat
deriving DecidableEq, Repr

/-! ### The Disassembler Engine (10_state.md section 5) -/

/-- A line record (42_engine.md R178). -/
inductive Line where
  | lead
  | instr (offset : Nat) (bytes : List Byte) (mnemonic : Mnemonic) (operand : Text)
  | trail (offset : Nat)
deriving DecidableEq, Repr

/-- `EST`, the engine state flag (R41). -/
inductive Est where
  | decoding
  | exhausted
deriving DecidableEq, Repr

/-- The engine: the program region fixed at `create` (R43), the program counter `cursor` (R40), `EST` (R41) and the
output `lines`, oldest first (R42). -/
structure Engine where
  prg    : Memory
  cursor : Nat
  est    : Est
  lines  : List Line
deriving DecidableEq, Repr

/-! ### Exceptions (60_exceptions.md R400) -/

/-- The sub-reason of a `FormatError`; it is handed to the caller and kept nowhere (R408; log entry 12). -/
inductive FormatReason where
  | shortHeader
  | badMagic
  | shortBody
deriving DecidableEq, Repr

/-- The two fatal errors of `load`. -/
inductive LoadError where
  | ioError
  | formatError (r : FormatReason)
deriving DecidableEq, Repr

/-- The three exceptions of the hardware: the two fatal ones, and `DecodeError`, which never reaches the caller (R404). -/
inductive Exn where
  | load (x : LoadError)
  | decodeError
deriving DecidableEq, Repr

/-! ### Transactions (00_scope.md R12; log entry 4) -/

/-- The input of `load`: the whole file, or the statement that it could not be read (70_reset_and_hazards.md R436). -/
inductive Source where
  | failure
  | bytes (f : List Byte)
deriving DecidableEq, Repr

/-- The 14 names of `field(name)` (40_rom_container.md R143). -/
inductive FieldName where
  | mirroring | hasPersistentRam | hasTrainer | fourScreen | mapperLowNibble | vsUnisystem | playchoice10
  | isInes2 | mapperHighNibble | mapper | programSizeBytes | graphicsSizeBytes | programRamSizeBytes | tvSystem
deriving DecidableEq, Repr

/-- The value of a header field, by the field's width. -/
inductive FieldValue where
  | bit (v : BitVec 1)
  | nibble (v : BitVec 4)
  | byte (v : BitVec 8)
  | size (v : Nat)
  | flag (v : Bool)
deriving DecidableEq, Repr

/-- A transaction the host asks for. `reset` is the making of a fresh instance (70_reset_and_hazards.md R430; log
entry 6). -/
inductive Request where
  | load (src : Source)
  | field (f : FieldName)
  | programRegion
  | trainer
  | graphics
  | find (b : Byte)
  | decode (mode : Mode) (byte1 byte2 : Byte)
  | create
  | step
  | run
  | text
  | reset
deriving DecidableEq, Repr

/-- What a transaction answers to the host; `create`, `step`, `run` and `reset` answer nothing. -/
inductive Reply where
  | loaded
  | loadError (x : LoadError)
  | field (v : FieldValue)
  | region (bytes : List Byte)
  | found (d : Option Descriptor)
  | decoded (n : Nat) (operand : Text)
  | text (t : Text)
deriving DecidableEq, Repr

/-- The boundary to the host (70_reset_and_hazards.md R452): requests not yet performed and replies given, both oldest
first (log entry 4). -/
structure Port where
  requests : List Request
  replies  : List Reply
deriving DecidableEq, Repr

/-! ### The state -/

/-- The whole state: the parameters, `T` among them (R21; log entry 1), the container, the engine where one has been
created, and the port. -/
structure State where
  cfg    : Config
  rom    : Rom
  engine : Option Engine
  port   : Port
deriving DecidableEq, Repr

/-- Why a step faults. -/
inductive Fault where
  /-- A read outside the bytes of a region. Raised by fetching or by a decode whose bytes are not all there. Safe: "a model
  must not define an out-of-bounds read as zero or any other value" (20_memory.md R76), and no state that meets
  `State.Inv` reaches it (log entry 9). -/
  | readOutsideRegion
deriving DecidableEq, Repr

/-- Why a step is refused. -/
inductive Refusal where
  /-- An instruction without a meaning yet. Raised by nothing: every instruction has its meaning. Safe. -/
  | notModelled (mnemonic : String)
  /-- `step`, `run` or `text` with no engine created. Raised by the engine's transactions and by an instruction's
  meaning. Safe: the order of 60_exceptions.md R414 rules it out and gives it no behaviour (log entry 10). -/
  | noEngine
  /-- An accessor or `create` on a container that is not loaded. Raised by those transactions. Safe: R414, and
  40_rom_container.md R143 "does not exist" (log entry 10). -/
  | containerNotLoaded
  /-- `load` with `CST` other than `EMPTY`. Raised by `load`. Safe: R414, and R136 "not an operation the hardware has" (log
  entry 10). -/
  | loadNotPermitted
deriving DecidableEq, Repr

/-- The block right after reset under a given configuration (R430, R433, R47): `CST = EMPTY`, no header field, no buffer
and no engine, hence no `cursor`, `EST` or `lines`; the host has asked for nothing. -/
def State.resetWith (cfg : Config) : State where
  cfg    := cfg
  rom    := .empty
  engine := none
  port   := ⟨[], []⟩

/-- The block right after reset, with every parameter of 00_scope.md R4 at its default. -/
def State.reset : State := State.resetWith Config.default

/-- The register `CST` (R23). -/
def State.cst (s : State) : Cst :=
  match s.rom with
  | .empty => .empty
  | .loaded _ => .loaded
  | .failedIo => .failedIo
  | .failedFormat => .failedFormat

/-- The state with another engine in it. -/
def State.setEngine (s : State) (e : Engine) : State := { s with engine := some e }

end Sys2Proof.Machine
end

