-- ==== Sys2Proof/Machine/Flags.lean ====
section
/-! DEFINITION. The one-bit and wider fields of the iNES header as functions of its bytes (10_state.md R24 to R37,
30_encoding.md R104). This hardware has no condition codes (R45): these are all the flags it has. -/

namespace Sys2Proof.Machine

/-- `HDR.mirroring = F[6][0]` (R24). -/
def mirroringOf (f6 : Byte) : BitVec 1 := f6.extractLsb' 0 1

/-- `HDR.has_persistent_ram = F[6][1]` (R25). -/
def hasPersistentRamOf (f6 : Byte) : BitVec 1 := f6.extractLsb' 1 1

/-- `HDR.has_trainer = F[6][2]` (R26). -/
def hasTrainerOf (f6 : Byte) : BitVec 1 := f6.extractLsb' 2 1

/-- `HDR.four_screen = F[6][3]` (R27). -/
def fourScreenOf (f6 : Byte) : BitVec 1 := f6.extractLsb' 3 1

/-- `HDR.mapper_low_nibble = F[6][7:4]` (R28). -/
def mapperLowNibbleOf (f6 : Byte) : BitVec 4 := f6.extractLsb' 4 4

/-- `HDR.vs_unisystem = F[7][0]` (R29). -/
def vsUnisystemOf (f7 : Byte) : BitVec 1 := f7.extractLsb' 0 1

/-- `HDR.playchoice10 = F[7][1]` (R30). -/
def playchoice10Of (f7 : Byte) : BitVec 1 := f7.extractLsb' 1 1

/-- `HDR.is_ines2 = (F[7][3:2] == 2)`, bit 3 the more significant (R31). -/
def isInes2Of (f7 : Byte) : Bool := f7.extractLsb' 2 2 == 2#2

/-- `HDR.mapper_high_nibble = F[7][7:4]` (R32). -/
def mapperHighNibbleOf (f7 : Byte) : BitVec 4 := f7.extractLsb' 4 4

/-- `HDR.mapper = (HDR.mapper_high_nibble << 4) | HDR.mapper_low_nibble` (R33). -/
def mapperOf (high low : BitVec 4) : BitVec 8 := (high.setWidth 8 <<< 4) ||| low.setWidth 8

/-- `HDR.program_size_bytes = F[4] × 16384` (R34). -/
def programSizeOf (f4 : Byte) : Nat := f4.toNat * prgBank

/-- `HDR.graphics_size_bytes = F[5] × 8192` (R35). -/
def graphicsSizeOf (f5 : Byte) : Nat := f5.toNat * chrBank

/-- `HDR.program_ram_size_bytes = F[8] × 8192` (R36). -/
def programRamSizeOf (f8 : Byte) : Nat := f8.toNat * ramBank

/-- `HDR.tv_system = F[9][0]` (R37). -/
def tvSystemOf (f9 : Byte) : BitVec 1 := f9.extractLsb' 0 1

/-- All 14 fields, "as pure functions of those six bytes" (40_rom_container.md R125). -/
def Header.ofBytes (f4 f5 f6 f7 f8 f9 : Byte) : Header where
  mirroring           := mirroringOf f6
  hasPersistentRam    := hasPersistentRamOf f6
  hasTrainer          := hasTrainerOf f6
  fourScreen          := fourScreenOf f6
  mapperLowNibble     := mapperLowNibbleOf f6
  vsUnisystem         := vsUnisystemOf f7
  playchoice10        := playchoice10Of f7
  isInes2             := isInes2Of f7
  mapperHighNibble    := mapperHighNibbleOf f7
  mapper              := mapperOf (mapperHighNibbleOf f7) (mapperLowNibbleOf f6)
  programSizeBytes    := programSizeOf f4
  graphicsSizeBytes   := graphicsSizeOf f5
  programRamSizeBytes := programRamSizeOf f8
  tvSystem            := tvSystemOf f9

/-- `field(name)`: the register's value (R143). -/
def Header.field (h : Header) : FieldName → FieldValue
  | .mirroring           => .bit h.mirroring
  | .hasPersistentRam    => .bit h.hasPersistentRam
  | .hasTrainer          => .bit h.hasTrainer
  | .fourScreen          => .bit h.fourScreen
  | .mapperLowNibble     => .nibble h.mapperLowNibble
  | .vsUnisystem         => .bit h.vsUnisystem
  | .playchoice10        => .bit h.playchoice10
  | .isInes2             => .flag h.isInes2
  | .mapperHighNibble    => .nibble h.mapperHighNibble
  | .mapper              => .byte h.mapper
  | .programSizeBytes    => .size h.programSizeBytes
  | .graphicsSizeBytes   => .size h.graphicsSizeBytes
  | .programRamSizeBytes => .size h.programRamSizeBytes
  | .tvSystem            => .bit h.tvSystem

/-- The trainer's length in the file, `t` of R120. -/
def Header.trainerSize (h : Header) : Nat := if h.hasTrainer = 1#1 then trainerLen else 0

end Sys2Proof.Machine
end

