-- ==== Sys2Proof/Machine/Operands.lean ====
section
/-! DEFINITION. The text primitives (00_scope.md R7, R8) and the operand text of every addressing mode (41_instruction_table.md
R158, 30_encoding.md R96, R102). -/

namespace Sys2Proof.Machine

/-- The character of a letter: upper case, as the document's examples have it (41_instruction_table.md R150). -/
def letterChar : Letter → Char
  | .a => 'A'
  | .b => 'B'
  | .c => 'C'
  | .d => 'D'
  | .e => 'E'
  | .f => 'F'
  | .g => 'G'
  | .h => 'H'
  | .i => 'I'
  | .j => 'J'
  | .k => 'K'
  | .l => 'L'
  | .m => 'M'
  | .n => 'N'
  | .o => 'O'
  | .p => 'P'
  | .q => 'Q'
  | .r => 'R'
  | .s => 'S'
  | .t => 'T'
  | .u => 'U'
  | .v => 'V'
  | .w => 'W'
  | .x => 'X'
  | .y => 'Y'
  | .z => 'Z'

/-- The three upper-case letters of a mnemonic as text (R150, R165). -/
def mnemonicText (m : Mnemonic) : Text := [letterChar m.first, letterChar m.second, letterChar m.third]

/-- The lowercase hexadecimal digit of a number below 16 (R7). -/
def hexDigit (v : Nat) : Char :=
  (['0', '1', '2', '3', '4', '5', '6', '7', '8', '9', 'a', 'b', 'c', 'd', 'e', 'f'].getD v '0')

/-- The digits of `v`, most significant first; the first argument bounds how many digits may still follow, and `hex`
gives it a bound that is never reached. -/
def hexDigits : Nat → Nat → Text
  | 0, v => [hexDigit (v % 16)]
  | fuel + 1, v => if v < 16 then [hexDigit v] else hexDigits fuel (v / 16) ++ [hexDigit (v % 16)]

/-- `hex(v)`: "at natural width (no zero-padding)", `hex(0) = "0"` (R7). -/
def hex (v : Nat) : Text := hexDigits v v

/-- `hexpad(v, w)`: `0` characters on the left up to `w` characters; no digit is dropped (R7). -/
def hexpad (v w : Nat) : Text := List.replicate (w - (hex v).length) '0' ++ hex v

/-- `ljust(s, w)`: spaces on the right up to `w` characters; nothing is cut off (R7). -/
def ljust (s : Text) (w : Nat) : Text := s ++ List.replicate (w - s.length) ' '

/-- `combine(lo, hi) = lo | (hi << 8)` (R8). -/
def combine (lo hi : Byte) : Nat := lo.toNat ||| (hi.toNat <<< 8)

/-- The operand text of a mode (R158): `h1` and `h16` at natural width, no sign extension in any mode (R96). Mode INDIRECT
shows what `INDIRECT_RENDER` says. -/
def operandText (render : IndirectRender) (mode : Mode) (byte1 byte2 : Byte) : Text :=
  let h1 := hex byte1.toNat
  let h16 := hex (combine byte1 byte2)
  match mode with
  | .accumulator => ['A']
  | .implied     => []
  | .immediate   => ['#', '$'] ++ h1
  | .zeropage    => ['$'] ++ h1
  | .zeropageX   => ['$'] ++ h1 ++ [',', 'X']
  | .zeropageY   => ['$'] ++ h1 ++ [',', 'Y']
  | .relative    => ['$'] ++ h1
  | .indirectX   => ['(', '$'] ++ h1 ++ [',', 'X', ')']
  | .indirectY   => ['(', '$'] ++ h1 ++ [',', 'Y', ')']
  | .absolute    => ['$'] ++ h16
  | .absoluteX   => ['$'] ++ h16 ++ [',', 'X']
  | .absoluteY   => ['$'] ++ h16 ++ [',', 'Y']
  | .indirect    =>
    match render with
    | .oneByte => ['(', '$'] ++ h1 ++ [')']
    | .combine => ['(', '$'] ++ h16 ++ [')']

/-- `decode(mode, byte1, byte2)`: "a pure function `(mode, bytes) -> (length, operand_text)`" (R158). -/
def decodeOperand (render : IndirectRender) (mode : Mode) (byte1 byte2 : Byte) : Nat × Text :=
  (mode.len, operandText render mode byte1 byte2)

end Sys2Proof.Machine
end

