-- ==== Sys2Proof/Machine/Ops.lean ====
section
/-! DEFINITION. The named operations over the byte spaces and the engine, the decode that every instruction's meaning is an
instance of, and taking an exception (20_memory.md, 42_engine.md, 60_exceptions.md). -/

namespace Sys2Proof.Machine

/-! ### Byte spaces -/

/-- `MemRead(S, a, 1)`: the byte at an offset; none where the space has no such offset (20_memory.md R76). -/
def Memory.read (m : Memory) (a : Nat) : Option Byte :=
  (m.cells.find? (fun c => c.1 == a)).map Prod.snd

/-- The number of bytes of a space; `L` for `PRG` (00_scope.md R6). -/
def Memory.size (m : Memory) : Nat := m.cells.length

/-- The bytes of a space in ascending offset order. -/
def Memory.bytes (m : Memory) : List Byte := m.cells.map Prod.snd

/-- The space that holds a byte sequence from offset 0. -/
def Memory.ofBytes (bs : List Byte) : Memory where
  cells := (List.range bs.length).zip bs

/-- The bytes at `n` consecutive offsets, one read each in ascending order (20_memory.md R65); none if one of the reads is
out of bounds. -/
def Memory.readBytes (m : Memory) (a : Nat) : Nat → Option (List Byte)
  | 0 => some []
  | n + 1 =>
    match m.read a, m.readBytes (a + 1) n with
    | some b, some bs => some (b :: bs)
    | _, _ => none

/-- The bytes from an offset on, as far as they exist and at most `n` of them. -/
def Memory.window (m : Memory) (a : Nat) : Nat → List Byte
  | 0 => []
  | n + 1 =>
    match m.read a with
    | some b => b :: m.window (a + 1) n
    | none => []

/-! ### The terminal condition (42_engine.md section 2) -/

/-- `req(c)` (R172): the length of the instruction at `c`; 1 where no descriptor is found or no byte is there. -/
def requiredLength (T : List Descriptor) (prg : Memory) (c : Nat) : Nat :=
  match prg.read c with
  | none => 1
  | some b =>
    match find T b with
    | none => 1
    | some d => d.mode.len

/-- `exh(c)`: `rem(c) < req(c)` with `rem(c) = L − c` (R174). -/
def exhaustedAt (T : List Descriptor) (prg : Memory) (c : Nat) : Bool :=
  decide (prg.size - c < requiredLength T prg c)

/-! ### The engine -/

/-- `append(lines, r)` (00_scope.md R9): at the end, and nothing else changes. -/
def Engine.append (e : Engine) (r : Line) : Engine := { e with lines := e.lines ++ [r] }

/-- `cursor <- cursor + n`. -/
def Engine.advance (e : Engine) (n : Nat) : Engine := { e with cursor := e.cursor + n }

/-- Reaching the terminal state: the trailing marker with the final offset, and `EST <- EXHAUSTED` (42_engine.md R183). -/
def Engine.exhaust (e : Engine) : Engine := { e.append (.trail e.cursor) with est := .exhausted }

/-- The check at the end of a step (R176). -/
def Engine.finish (e : Engine) (T : List Descriptor) : Engine :=
  if exhaustedAt T e.prg e.cursor then e.exhaust else e

/-- The leading marker, appended where the cursor is at offset 0 before the decode (R182). -/
def Engine.lead (e : Engine) : Engine :=
  if e.cursor = 0 then e.append .lead else e

/-- The effect of one recognised instruction on the engine (R176): its record, the advance by its length, the final
check. -/
def Engine.emit (e : Engine) (T : List Descriptor) (bytes : List Byte) (m : Mnemonic) (operand : Text) : Engine :=
  ((e.append (.instr e.cursor bytes m operand)).advance bytes.length).finish T

/-! ### Decoding one instruction: the effect every descriptor has -/

/-- The decode of one instruction of mnemonic `m` and mode `mode` with the operand bytes `byte1` and `byte2` (R176). The
record's bytes are those of the program region at the cursor (R178; log entry 8). An exhausted engine does nothing (R188). An
instruction that does not fit in what remains is not decoded: the engine is exhausted there (R174). -/
def decodeAs (m : Mnemonic) (mode : Mode) (byte1 byte2 : Byte) (s : State) : Host.Outcome State Fault Refusal :=
  match s.engine with
  | none => .refused .noEngine
  | some e =>
    match e.est with
    | .exhausted => .next s
    | .decoding =>
      if e.prg.size - e.cursor < mode.len then .next (s.setEngine e.exhaust)
      else
        match e.prg.readBytes e.cursor mode.len with
        | none => .fault .readOutsideRegion
        | some bytes =>
          .next (s.setEngine (e.emit s.cfg.table bytes m (decodeOperand s.cfg.indirectRender mode byte1 byte2).2))

/-- Decode in format F1: "No operand byte is read" (30_encoding.md R91), and the operand text of these modes reads none. -/
def decode1 (m : Mnemonic) (mode : Mode) (s : State) : Host.Outcome State Fault Refusal :=
  decodeAs m mode 0 0 s

/-- Decode in format F2, one operand byte (R92); the operand text of these modes reads no second byte. -/
def decode2 (m : Mnemonic) (mode : Mode) (byte1 : Byte) (s : State) : Host.Outcome State Fault Refusal :=
  decodeAs m mode byte1 0 s

/-- Decode in format F3, low byte and high byte (R93). -/
def decode3 (m : Mnemonic) (mode : Mode) (byte1 byte2 : Byte) (s : State) : Host.Outcome State Fault Refusal :=
  decodeAs m mode byte1 byte2 s

/-! ### Taking an exception (60_exceptions.md R412) -/

/-- What raising does. A fatal error of `load` leaves "exactly the reset state with `CST` changed": no header field, no
buffer, no engine. For `DecodeError` "entry is the skip itself": the cursor moves on by one and no record is appended
(47_unrecognized.md R390). Nothing is saved, and there is no return operation (R413). -/
def takeException (x : Exn) (s : State) : State :=
  match x with
  | .load .ioError         => { s with rom := .failedIo, engine := none }
  | .load (.formatError _) => { s with rom := .failedFormat, engine := none }
  | .decodeError           => { s with engine := s.engine.map (fun e => e.advance 1) }

/-- The check at the end of a step, on the state's engine (R176). -/
def finishEngine (s : State) : State :=
  { s with engine := s.engine.map (fun e => e.finish s.cfg.table) }

end Sys2Proof.Machine
end

