-- ==== Sys2Proof/Machine/Container.lean ====
section
/-! DEFINITION. The `load` transaction of the ROM Container (40_rom_container.md R120 to R141). -/

namespace Sys2Proof.Machine

/-- The signature bytes `N`, `E`, `S`, 0x1A (R124). -/
def magic : List Byte := [0x4e, 0x45, 0x53, 0x1a]

/-- `s[a..a+n)` of the file. -/
def slice (f : List Byte) (a n : Nat) : List Byte := (f.drop a).take n

/-- The header of a file of at least 16 bytes (R125); none of a shorter one. -/
def headerOf : List Byte → Option Header
  | _ :: _ :: _ :: _ :: f4 :: f5 :: f6 :: f7 :: f8 :: f9 :: _ :: _ :: _ :: _ :: _ :: _ :: _ =>
    some (Header.ofBytes f4 f5 f6 f7 f8 f9)
  | _ => none

/-- The length of file that a header declares, `16 + t + p + g` (R126). -/
def Header.declaredLength (h : Header) : Nat :=
  headerLen + h.trainerSize + h.programSizeBytes + h.graphicsSizeBytes

/-- The container a file holds, the regions sliced one after another (R128, R130, R132); bytes after the graphics region
are not read (R134). -/
def containerOf (h : Header) (f : List Byte) : Container where
  hdr := h
  trn := Memory.ofBytes (slice f headerLen h.trainerSize)
  prg := Memory.ofBytes (slice f (headerLen + h.trainerSize) h.programSizeBytes)
  chr := Memory.ofBytes (slice f (headerLen + h.trainerSize + h.programSizeBytes) h.graphicsSizeBytes)

/-- The checks of `load` in the order of R120 and R411: source failure, header length, signature, body length. -/
def readContainer (checkMagic : Bool) : Source → Except LoadError Container
  | .failure => .error .ioError
  | .bytes f =>
    match headerOf f with
    | none => .error (.formatError .shortHeader)
    | some h =>
      if checkMagic && f.take 4 != magic then .error (.formatError .badMagic)
      else if f.length < h.declaredLength then .error (.formatError .shortBody)
      else .ok (containerOf h f)

end Sys2Proof.Machine
end

