-- ==== Sys2Proof/Machine/Absolute.lean ====
section
/-! DEFINITION. The meanings of the 23 ABSOLUTE instructions (R330 and the rule of each). -/

namespace Sys2Proof.Machine

/-- `ADC` ABSOLUTE: R331. -/
def execAdcAbsolute (byte1 byte2 : Byte) (s : State) : Host.Outcome State Fault Refusal :=
  decode3 .adc .absolute byte1 byte2 s

/-- `AND` ABSOLUTE: R332. -/
def execAndAbsolute (byte1 byte2 : Byte) (s : State) : Host.Outcome State Fault Refusal :=
  decode3 .and .absolute byte1 byte2 s

/-- `ASL` ABSOLUTE: R333. -/
def execAslAbsolute (byte1 byte2 : Byte) (s : State) : Host.Outcome State Fault Refusal :=
  decode3 .asl .absolute byte1 byte2 s

/-- `BIT` ABSOLUTE: R334. -/
def execBitAbsolute (byte1 byte2 : Byte) (s : State) : Host.Outcome State Fault Refusal :=
  decode3 .bit .absolute byte1 byte2 s

/-- `CMP` ABSOLUTE: R335. -/
def execCmpAbsolute (byte1 byte2 : Byte) (s : State) : Host.Outcome State Fault Refusal :=
  decode3 .cmp .absolute byte1 byte2 s

/-- `CPX` ABSOLUTE: R336. -/
def execCpxAbsolute (byte1 byte2 : Byte) (s : State) : Host.Outcome State Fault Refusal :=
  decode3 .cpx .absolute byte1 byte2 s

/-- `CPY` ABSOLUTE: R337. -/
def execCpyAbsolute (byte1 byte2 : Byte) (s : State) : Host.Outcome State Fault Refusal :=
  decode3 .cpy .absolute byte1 byte2 s

/-- `DEC` ABSOLUTE: R338. -/
def execDecAbsolute (byte1 byte2 : Byte) (s : State) : Host.Outcome State Fault Refusal :=
  decode3 .dec .absolute byte1 byte2 s

/-- `EOR` ABSOLUTE: R339. -/
def execEorAbsolute (byte1 byte2 : Byte) (s : State) : Host.Outcome State Fault Refusal :=
  decode3 .eor .absolute byte1 byte2 s

/-- `INC` ABSOLUTE: R340. -/
def execIncAbsolute (byte1 byte2 : Byte) (s : State) : Host.Outcome State Fault Refusal :=
  decode3 .inc .absolute byte1 byte2 s

/-- `JMP` ABSOLUTE: R341. -/
def execJmpAbsolute (byte1 byte2 : Byte) (s : State) : Host.Outcome State Fault Refusal :=
  decode3 .jmp .absolute byte1 byte2 s

/-- `JSR` ABSOLUTE: R342. -/
def execJsrAbsolute (byte1 byte2 : Byte) (s : State) : Host.Outcome State Fault Refusal :=
  decode3 .jsr .absolute byte1 byte2 s

/-- `LDA` ABSOLUTE: R343. -/
def execLdaAbsolute (byte1 byte2 : Byte) (s : State) : Host.Outcome State Fault Refusal :=
  decode3 .lda .absolute byte1 byte2 s

/-- `LDX` ABSOLUTE: R344. -/
def execLdxAbsolute (byte1 byte2 : Byte) (s : State) : Host.Outcome State Fault Refusal :=
  decode3 .ldx .absolute byte1 byte2 s

/-- `LDY` ABSOLUTE: R345. -/
def execLdyAbsolute (byte1 byte2 : Byte) (s : State) : Host.Outcome State Fault Refusal :=
  decode3 .ldy .absolute byte1 byte2 s

/-- `LSR` ABSOLUTE: R346. -/
def execLsrAbsolute (byte1 byte2 : Byte) (s : State) : Host.Outcome State Fault Refusal :=
  decode3 .lsr .absolute byte1 byte2 s

/-- `ORA` ABSOLUTE: R347. -/
def execOraAbsolute (byte1 byte2 : Byte) (s : State) : Host.Outcome State Fault Refusal :=
  decode3 .ora .absolute byte1 byte2 s

/-- `ROL` ABSOLUTE: R348. -/
def execRolAbsolute (byte1 byte2 : Byte) (s : State) : Host.Outcome State Fault Refusal :=
  decode3 .rol .absolute byte1 byte2 s

/-- `ROR` ABSOLUTE: R349. -/
def execRorAbsolute (byte1 byte2 : Byte) (s : State) : Host.Outcome State Fault Refusal :=
  decode3 .ror .absolute byte1 byte2 s

/-- `SBC` ABSOLUTE: R350. -/
def execSbcAbsolute (byte1 byte2 : Byte) (s : State) : Host.Outcome State Fault Refusal :=
  decode3 .sbc .absolute byte1 byte2 s

/-- `STA` ABSOLUTE: R351. -/
def execStaAbsolute (byte1 byte2 : Byte) (s : State) : Host.Outcome State Fault Refusal :=
  decode3 .sta .absolute byte1 byte2 s

/-- `STX` ABSOLUTE: R352. -/
def execStxAbsolute (byte1 byte2 : Byte) (s : State) : Host.Outcome State Fault Refusal :=
  decode3 .stx .absolute byte1 byte2 s

/-- `STY` ABSOLUTE: R353. -/
def execStyAbsolute (byte1 byte2 : Byte) (s : State) : Host.Outcome State Fault Refusal :=
  decode3 .sty .absolute byte1 byte2 s

end Sys2Proof.Machine
end

