-- ==== Sys2Proof/Machine/AbsoluteX.lean ====
section
/-! DEFINITION. The meanings of the 15 ABSOLUTE_X instructions (R354 and the rule of each). -/

namespace Sys2Proof.Machine

/-- `ADC` ABSOLUTE_X: R355. -/
def execAdcAbsoluteX (byte1 byte2 : Byte) (s : State) : Host.Outcome State Fault Refusal :=
  decode3 .adc .absoluteX byte1 byte2 s

/-- `AND` ABSOLUTE_X: R356. -/
def execAndAbsoluteX (byte1 byte2 : Byte) (s : State) : Host.Outcome State Fault Refusal :=
  decode3 .and .absoluteX byte1 byte2 s

/-- `ASL` ABSOLUTE_X: R357. -/
def execAslAbsoluteX (byte1 byte2 : Byte) (s : State) : Host.Outcome State Fault Refusal :=
  decode3 .asl .absoluteX byte1 byte2 s

/-- `CMP` ABSOLUTE_X: R358. -/
def execCmpAbsoluteX (byte1 byte2 : Byte) (s : State) : Host.Outcome State Fault Refusal :=
  decode3 .cmp .absoluteX byte1 byte2 s

/-- `DEC` ABSOLUTE_X: R359. -/
def execDecAbsoluteX (byte1 byte2 : Byte) (s : State) : Host.Outcome State Fault Refusal :=
  decode3 .dec .absoluteX byte1 byte2 s

/-- `EOR` ABSOLUTE_X: R360. -/
def execEorAbsoluteX (byte1 byte2 : Byte) (s : State) : Host.Outcome State Fault Refusal :=
  decode3 .eor .absoluteX byte1 byte2 s

/-- `INC` ABSOLUTE_X: R361. -/
def execIncAbsoluteX (byte1 byte2 : Byte) (s : State) : Host.Outcome State Fault Refusal :=
  decode3 .inc .absoluteX byte1 byte2 s

/-- `LDA` ABSOLUTE_X: R362. -/
def execLdaAbsoluteX (byte1 byte2 : Byte) (s : State) : Host.Outcome State Fault Refusal :=
  decode3 .lda .absoluteX byte1 byte2 s

/-- `LDY` ABSOLUTE_X: R363. -/
def execLdyAbsoluteX (byte1 byte2 : Byte) (s : State) : Host.Outcome State Fault Refusal :=
  decode3 .ldy .absoluteX byte1 byte2 s

/-- `LSR` ABSOLUTE_X: R364. -/
def execLsrAbsoluteX (byte1 byte2 : Byte) (s : State) : Host.Outcome State Fault Refusal :=
  decode3 .lsr .absoluteX byte1 byte2 s

/-- `ORA` ABSOLUTE_X: R365. -/
def execOraAbsoluteX (byte1 byte2 : Byte) (s : State) : Host.Outcome State Fault Refusal :=
  decode3 .ora .absoluteX byte1 byte2 s

/-- `ROL` ABSOLUTE_X: R366. -/
def execRolAbsoluteX (byte1 byte2 : Byte) (s : State) : Host.Outcome State Fault Refusal :=
  decode3 .rol .absoluteX byte1 byte2 s

/-- `ROR` ABSOLUTE_X: R367. -/
def execRorAbsoluteX (byte1 byte2 : Byte) (s : State) : Host.Outcome State Fault Refusal :=
  decode3 .ror .absoluteX byte1 byte2 s

/-- `SBC` ABSOLUTE_X: R368. -/
def execSbcAbsoluteX (byte1 byte2 : Byte) (s : State) : Host.Outcome State Fault Refusal :=
  decode3 .sbc .absoluteX byte1 byte2 s

/-- `STA` ABSOLUTE_X: R369. -/
def execStaAbsoluteX (byte1 byte2 : Byte) (s : State) : Host.Outcome State Fault Refusal :=
  decode3 .sta .absoluteX byte1 byte2 s

end Sys2Proof.Machine
end

