-- ==== Sys2Proof/Machine/AbsoluteY.lean ====
section
/-! DEFINITION. The meanings of the 9 ABSOLUTE_Y instructions (R370 and the rule of each). -/

namespace Sys2Proof.Machine

/-- `ADC` ABSOLUTE_Y: R371. -/
def execAdcAbsoluteY (byte1 byte2 : Byte) (s : State) : Host.Outcome State Fault Refusal :=
  decode3 .adc .absoluteY byte1 byte2 s

/-- `AND` ABSOLUTE_Y: R372. -/
def execAndAbsoluteY (byte1 byte2 : Byte) (s : State) : Host.Outcome State Fault Refusal :=
  decode3 .and .absoluteY byte1 byte2 s

/-- `CMP` ABSOLUTE_Y: R373. -/
def execCmpAbsoluteY (byte1 byte2 : Byte) (s : State) : Host.Outcome State Fault Refusal :=
  decode3 .cmp .absoluteY byte1 byte2 s

/-- `EOR` ABSOLUTE_Y: R374. -/
def execEorAbsoluteY (byte1 byte2 : Byte) (s : State) : Host.Outcome State Fault Refusal :=
  decode3 .eor .absoluteY byte1 byte2 s

/-- `LDA` ABSOLUTE_Y: R375. -/
def execLdaAbsoluteY (byte1 byte2 : Byte) (s : State) : Host.Outcome State Fault Refusal :=
  decode3 .lda .absoluteY byte1 byte2 s

/-- `LDX` ABSOLUTE_Y: R376. -/
def execLdxAbsoluteY (byte1 byte2 : Byte) (s : State) : Host.Outcome State Fault Refusal :=
  decode3 .ldx .absoluteY byte1 byte2 s

/-- `ORA` ABSOLUTE_Y: R377. -/
def execOraAbsoluteY (byte1 byte2 : Byte) (s : State) : Host.Outcome State Fault Refusal :=
  decode3 .ora .absoluteY byte1 byte2 s

/-- `SBC` ABSOLUTE_Y: R378. -/
def execSbcAbsoluteY (byte1 byte2 : Byte) (s : State) : Host.Outcome State Fault Refusal :=
  decode3 .sbc .absoluteY byte1 byte2 s

/-- `STA` ABSOLUTE_Y: R379. -/
def execStaAbsoluteY (byte1 byte2 : Byte) (s : State) : Host.Outcome State Fault Refusal :=
  decode3 .sta .absoluteY byte1 byte2 s

end Sys2Proof.Machine
end

