-- ==== Sys2Proof/Machine/Accumulator.lean ====
section
/-! DEFINITION. The meanings of the 4 ACCUMULATOR instructions (R200 and the rule of each). -/

namespace Sys2Proof.Machine

/-- `ASL` ACCUMULATOR: R201. -/
def execAslAccumulator (s : State) : Host.Outcome State Fault Refusal :=
  decode1 .asl .accumulator s

/-- `LSR` ACCUMULATOR: R202. -/
def execLsrAccumulator (s : State) : Host.Outcome State Fault Refusal :=
  decode1 .lsr .accumulator s

/-- `ROL` ACCUMULATOR: R203. -/
def execRolAccumulator (s : State) : Host.Outcome State Fault Refusal :=
  decode1 .rol .accumulator s

/-- `ROR` ACCUMULATOR: R204. -/
def execRorAccumulator (s : State) : Host.Outcome State Fault Refusal :=
  decode1 .ror .accumulator s

end Sys2Proof.Machine
end

