-- ==== Sys2Proof/Machine/Immediate.lean ====
section
/-! DEFINITION. The meanings of the 11 IMMEDIATE instructions (R240 and the rule of each). -/

namespace Sys2Proof.Machine

/-- `ADC` IMMEDIATE: R241. -/
def execAdcImmediate (byte1 : Byte) (s : State) : Host.Outcome State Fault Refusal :=
  decode2 .adc .immediate byte1 s

/-- `AND` IMMEDIATE: R242. -/
def execAndImmediate (byte1 : Byte) (s : State) : Host.Outcome State Fault Refusal :=
  decode2 .and .immediate byte1 s

/-- `CMP` IMMEDIATE: R243. -/
def execCmpImmediate (byte1 : Byte) (s : State) : Host.Outcome State Fault Refusal :=
  decode2 .cmp .immediate byte1 s

/-- `CPX` IMMEDIATE: R244. -/
def execCpxImmediate (byte1 : Byte) (s : State) : Host.Outcome State Fault Refusal :=
  decode2 .cpx .immediate byte1 s

/-- `CPY` IMMEDIATE: R245. -/
def execCpyImmediate (byte1 : Byte) (s : State) : Host.Outcome State Fault Refusal :=
  decode2 .cpy .immediate byte1 s

/-- `EOR` IMMEDIATE: R246. -/
def execEorImmediate (byte1 : Byte) (s : State) : Host.Outcome State Fault Refusal :=
  decode2 .eor .immediate byte1 s

/-- `LDA` IMMEDIATE: R247. -/
def execLdaImmediate (byte1 : Byte) (s : State) : Host.Outcome State Fault Refusal :=
  decode2 .lda .immediate byte1 s

/-- `LDX` IMMEDIATE: R248. -/
def execLdxImmediate (byte1 : Byte) (s : State) : Host.Outcome State Fault Refusal :=
  decode2 .ldx .immediate byte1 s

/-- `LDY` IMMEDIATE: R249. -/
def execLdyImmediate (byte1 : Byte) (s : State) : Host.Outcome State Fault Refusal :=
  decode2 .ldy .immediate byte1 s

/-- `ORA` IMMEDIATE: R250. -/
def execOraImmediate (byte1 : Byte) (s : State) : Host.Outcome State Fault Refusal :=
  decode2 .ora .immediate byte1 s

/-- `SBC` IMMEDIATE: R251. -/
def execSbcImmediate (byte1 : Byte) (s : State) : Host.Outcome State Fault Refusal :=
  decode2 .sbc .immediate byte1 s

end Sys2Proof.Machine
end

