-- ==== Sys2Proof/Machine/Implied.lean ====
section
/-! DEFINITION. The meanings of the 25 IMPLIED instructions (R205 and the rule of each). -/

namespace Sys2Proof.Machine

/-- `BRK` IMPLIED: R206. -/
def execBrkImplied (s : State) : Host.Outcome State Fault Refusal :=
  decode1 .brk .implied s

/-- `CLC` IMPLIED: R207. -/
def execClcImplied (s : State) : Host.Outcome State Fault Refusal :=
  decode1 .clc .implied s

/-- `CLD` IMPLIED: R208. -/
def execCldImplied (s : State) : Host.Outcome State Fault Refusal :=
  decode1 .cld .implied s

/-- `CLI` IMPLIED: R209. -/
def execCliImplied (s : State) : Host.Outcome State Fault Refusal :=
  decode1 .cli .implied s

/-- `CLV` IMPLIED: R210. -/
def execClvImplied (s : State) : Host.Outcome State Fault Refusal :=
  decode1 .clv .implied s

/-- `DEX` IMPLIED: R211. -/
def execDexImplied (s : State) : Host.Outcome State Fault Refusal :=
  decode1 .dex .implied s

/-- `DEY` IMPLIED: R212. -/
def execDeyImplied (s : State) : Host.Outcome State Fault Refusal :=
  decode1 .dey .implied s

/-- `INX` IMPLIED: R213. -/
def execInxImplied (s : State) : Host.Outcome State Fault Refusal :=
  decode1 .inx .implied s

/-- `INY` IMPLIED: R214. -/
def execInyImplied (s : State) : Host.Outcome State Fault Refusal :=
  decode1 .iny .implied s

/-- `NOP` IMPLIED: R215. -/
def execNopImplied (s : State) : Host.Outcome State Fault Refusal :=
  decode1 .nop .implied s

/-- `PHA` IMPLIED: R216. -/
def execPhaImplied (s : State) : Host.Outcome State Fault Refusal :=
  decode1 .pha .implied s

/-- `PHP` IMPLIED: R217. -/
def execPhpImplied (s : State) : Host.Outcome State Fault Refusal :=
  decode1 .php .implied s

/-- `PLA` IMPLIED: R218. -/
def execPlaImplied (s : State) : Host.Outcome State Fault Refusal :=
  decode1 .pla .implied s

/-- `PLP` IMPLIED: R219. -/
def execPlpImplied (s : State) : Host.Outcome State Fault Refusal :=
  decode1 .plp .implied s

/-- `RTI` IMPLIED: R220. -/
def execRtiImplied (s : State) : Host.Outcome State Fault Refusal :=
  decode1 .rti .implied s

/-- `RTS` IMPLIED: R221. -/
def execRtsImplied (s : State) : Host.Outcome State Fault Refusal :=
  decode1 .rts .implied s

/-- `SEC` IMPLIED: R222. -/
def execSecImplied (s : State) : Host.Outcome State Fault Refusal :=
  decode1 .sec .implied s

/-- `SED` IMPLIED: R223. -/
def execSedImplied (s : State) : Host.Outcome State Fault Refusal :=
  decode1 .sed .implied s

/-- `SEI` IMPLIED: R224. -/
def execSeiImplied (s : State) : Host.Outcome State Fault Refusal :=
  decode1 .sei .implied s

/-- `TAX` IMPLIED: R225. -/
def execTaxImplied (s : State) : Host.Outcome State Fault Refusal :=
  decode1 .tax .implied s

/-- `TAY` IMPLIED: R226. -/
def execTayImplied (s : State) : Host.Outcome State Fault Refusal :=
  decode1 .tay .implied s

/-- `TSX` IMPLIED: R227. -/
def execTsxImplied (s : State) : Host.Outcome State Fault Refusal :=
  decode1 .tsx .implied s

/-- `TXA` IMPLIED: R228. -/
def execTxaImplied (s : State) : Host.Outcome State Fault Refusal :=
  decode1 .txa .implied s

/-- `TXS` IMPLIED: R229. -/
def execTxsImplied (s : State) : Host.Outcome State Fault Refusal :=
  decode1 .txs .implied s

/-- `TYA` IMPLIED: R230. -/
def execTyaImplied (s : State) : Host.Outcome State Fault Refusal :=
  decode1 .tya .implied s

end Sys2Proof.Machine
end

