-- ==== Sys2Proof/Machine/Indirect.lean ====
section
/-! DEFINITION. The meanings of the 1 INDIRECT instructions (R380 and the rule of each). -/

namespace Sys2Proof.Machine

/-- `JMP` INDIRECT: R381. -/
def execJmpIndirect (byte1 byte2 : Byte) (s : State) : Host.Outcome State Fault Refusal :=
  decode3 .jmp .indirect byte1 byte2 s

end Sys2Proof.Machine
end

