-- ==== Sys2Proof/Machine/IndirectX.lean ====
section
/-! DEFINITION. The meanings of the 8 INDIRECT_X instructions (R303 and the rule of each). -/

namespace Sys2Proof.Machine

/-- `ADC` INDIRECT_X: R304. -/
def execAdcIndirectX (byte1 : Byte) (s : State) : Host.Outcome State Fault Refusal :=
  decode2 .adc .indirectX byte1 s

/-- `AND` INDIRECT_X: R305. -/
def execAndIndirectX (byte1 : Byte) (s : State) : Host.Outcome State Fault Refusal :=
  decode2 .and .indirectX byte1 s

/-- `CMP` INDIRECT_X: R306. -/
def execCmpIndirectX (byte1 : Byte) (s : State) : Host.Outcome State Fault Refusal :=
  decode2 .cmp .indirectX byte1 s

/-- `EOR` INDIRECT_X: R307. -/
def execEorIndirectX (byte1 : Byte) (s : State) : Host.Outcome State Fault Refusal :=
  decode2 .eor .indirectX byte1 s

/-- `LDA` INDIRECT_X: R308. -/
def execLdaIndirectX (byte1 : Byte) (s : State) : Host.Outcome State Fault Refusal :=
  decode2 .lda .indirectX byte1 s

/-- `ORA` INDIRECT_X: R309. -/
def execOraIndirectX (byte1 : Byte) (s : State) : Host.Outcome State Fault Refusal :=
  decode2 .ora .indirectX byte1 s

/-- `SBC` INDIRECT_X: R310. -/
def execSbcIndirectX (byte1 : Byte) (s : State) : Host.Outcome State Fault Refusal :=
  decode2 .sbc .indirectX byte1 s

/-- `STA` INDIRECT_X: R311. -/
def execStaIndirectX (byte1 : Byte) (s : State) : Host.Outcome State Fault Refusal :=
  decode2 .sta .indirectX byte1 s

end Sys2Proof.Machine
end

