-- ==== Sys2Proof/Machine/IndirectY.lean ====
section
/-! DEFINITION. The meanings of the 8 INDIRECT_Y instructions (R312 and the rule of each). -/

namespace Sys2Proof.Machine

/-- `ADC` INDIRECT_Y: R313. -/
def execAdcIndirectY (byte1 : Byte) (s : State) : Host.Outcome State Fault Refusal :=
  decode2 .adc .indirectY byte1 s

/-- `AND` INDIRECT_Y: R314. -/
def execAndIndirectY (byte1 : Byte) (s : State) : Host.Outcome State Fault Refusal :=
  decode2 .and .indirectY byte1 s

/-- `CMP` INDIRECT_Y: R315. -/
def execCmpIndirectY (byte1 : Byte) (s : State) : Host.Outcome State Fault Refusal :=
  decode2 .cmp .indirectY byte1 s

/-- `EOR` INDIRECT_Y: R316. -/
def execEorIndirectY (byte1 : Byte) (s : State) : Host.Outcome State Fault Refusal :=
  decode2 .eor .indirectY byte1 s

/-- `LDA` INDIRECT_Y: R317. -/
def execLdaIndirectY (byte1 : Byte) (s : State) : Host.Outcome State Fault Refusal :=
  decode2 .lda .indirectY byte1 s

/-- `ORA` INDIRECT_Y: R318. -/
def execOraIndirectY (byte1 : Byte) (s : State) : Host.Outcome State Fault Refusal :=
  decode2 .ora .indirectY byte1 s

/-- `SBC` INDIRECT_Y: R319. -/
def execSbcIndirectY (byte1 : Byte) (s : State) : Host.Outcome State Fault Refusal :=
  decode2 .sbc .indirectY byte1 s

/-- `STA` INDIRECT_Y: R320. -/
def execStaIndirectY (byte1 : Byte) (s : State) : Host.Outcome State Fault Refusal :=
  decode2 .sta .indirectY byte1 s

end Sys2Proof.Machine
end

