-- ==== Sys2Proof/Machine/Relative.lean ====
section
/-! DEFINITION. The meanings of the 8 RELATIVE instructions (R294 and the rule of each). -/

namespace Sys2Proof.Machine

/-- `BCC` RELATIVE: R295. -/
def execBccRelative (byte1 : Byte) (s : State) : Host.Outcome State Fault Refusal :=
  decode2 .bcc .relative byte1 s

/-- `BCS` RELATIVE: R296. -/
def execBcsRelative (byte1 : Byte) (s : State) : Host.Outcome State Fault Refusal :=
  decode2 .bcs .relative byte1 s

/-- `BEQ` RELATIVE: R297. -/
def execBeqRelative (byte1 : Byte) (s : State) : Host.Outcome State Fault Refusal :=
  decode2 .beq .relative byte1 s

/-- `BMI` RELATIVE: R298. -/
def execBmiRelative (byte1 : Byte) (s : State) : Host.Outcome State Fault Refusal :=
  decode2 .bmi .relative byte1 s

/-- `BNE` RELATIVE: R299. -/
def execBneRelative (byte1 : Byte) (s : State) : Host.Outcome State Fault Refusal :=
  decode2 .bne .relative byte1 s

/-- `BPL` RELATIVE: R300. -/
def execBplRelative (byte1 : Byte) (s : State) : Host.Outcome State Fault Refusal :=
  decode2 .bpl .relative byte1 s

/-- `BVC` RELATIVE: R301. -/
def execBvcRelative (byte1 : Byte) (s : State) : Host.Outcome State Fault Refusal :=
  decode2 .bvc .relative byte1 s

/-- `BVS` RELATIVE: R302. -/
def execBvsRelative (byte1 : Byte) (s : State) : Host.Outcome State Fault Refusal :=
  decode2 .bvs .relative byte1 s

end Sys2Proof.Machine
end

