-- ==== Sys2Proof/Machine/Zeropage.lean ====
section
/-! DEFINITION. The meanings of the 21 ZEROPAGE instructions (R252 and the rule of each). -/

namespace Sys2Proof.Machine

/-- `ADC` ZEROPAGE: R253. -/
def execAdcZeropage (byte1 : Byte) (s : State) : Host.Outcome State Fault Refusal :=
  decode2 .adc .zeropage byte1 s

/-- `AND` ZEROPAGE: R254. -/
def execAndZeropage (byte1 : Byte) (s : State) : Host.Outcome State Fault Refusal :=
  decode2 .and .zeropage byte1 s

/-- `ASL` ZEROPAGE: R255. -/
def execAslZeropage (byte1 : Byte) (s : State) : Host.Outcome State Fault Refusal :=
  decode2 .asl .zeropage byte1 s

/-- `BIT` ZEROPAGE: R256. -/
def execBitZeropage (byte1 : Byte) (s : State) : Host.Outcome State Fault Refusal :=
  decode2 .bit .zeropage byte1 s

/-- `CMP` ZEROPAGE: R257. -/
def execCmpZeropage (byte1 : Byte) (s : State) : Host.Outcome State Fault Refusal :=
  decode2 .cmp .zeropage byte1 s

/-- `CPX` ZEROPAGE: R258. -/
def execCpxZeropage (byte1 : Byte) (s : State) : Host.Outcome State Fault Refusal :=
  decode2 .cpx .zeropage byte1 s

/-- `CPY` ZEROPAGE: R259. -/
def execCpyZeropage (byte1 : Byte) (s : State) : Host.Outcome State Fault Refusal :=
  decode2 .cpy .zeropage byte1 s

/-- `DEC` ZEROPAGE: R260. -/
def execDecZeropage (byte1 : Byte) (s : State) : Host.Outcome State Fault Refusal :=
  decode2 .dec .zeropage byte1 s

/-- `EOR` ZEROPAGE: R261. -/
def execEorZeropage (byte1 : Byte) (s : State) : Host.Outcome State Fault Refusal :=
  decode2 .eor .zeropage byte1 s

/-- `INC` ZEROPAGE: R262. -/
def execIncZeropage (byte1 : Byte) (s : State) : Host.Outcome State Fault Refusal :=
  decode2 .inc .zeropage byte1 s

/-- `LDA` ZEROPAGE: R263. -/
def execLdaZeropage (byte1 : Byte) (s : State) : Host.Outcome State Fault Refusal :=
  decode2 .lda .zeropage byte1 s

/-- `LDX` ZEROPAGE: R264. -/
def execLdxZeropage (byte1 : Byte) (s : State) : Host.Outcome State Fault Refusal :=
  decode2 .ldx .zeropage byte1 s

/-- `LDY` ZEROPAGE: R265. -/
def execLdyZeropage (byte1 : Byte) (s : State) : Host.Outcome State Fault Refusal :=
  decode2 .ldy .zeropage byte1 s

/-- `LSR` ZEROPAGE: R266. -/
def execLsrZeropage (byte1 : Byte) (s : State) : Host.Outcome State Fault Refusal :=
  decode2 .lsr .zeropage byte1 s

/-- `ORA` ZEROPAGE: R267. -/
def execOraZeropage (byte1 : Byte) (s : State) : Host.Outcome State Fault Refusal :=
  decode2 .ora .zeropage byte1 s

/-- `ROL` ZEROPAGE: R268. -/
def execRolZeropage (byte1 : Byte) (s : State) : Host.Outcome State Fault Refusal :=
  decode2 .rol .zeropage byte1 s

/-- `ROR` ZEROPAGE: R269. -/
def execRorZeropage (byte1 : Byte) (s : State) : Host.Outcome State Fault Refusal :=
  decode2 .ror .zeropage byte1 s

/-- `SBC` ZEROPAGE: R270. -/
def execSbcZeropage (byte1 : Byte) (s : State) : Host.Outcome State Fault Refusal :=
  decode2 .sbc .zeropage byte1 s

/-- `STA` ZEROPAGE: R271. -/
def execStaZeropage (byte1 : Byte) (s : State) : Host.Outcome State Fault Refusal :=
  decode2 .sta .zeropage byte1 s

/-- `STX` ZEROPAGE: R272. -/
def execStxZeropage (byte1 : Byte) (s : State) : Host.Outcome State Fault Refusal :=
  decode2 .stx .zeropage byte1 s

/-- `STY` ZEROPAGE: R273. -/
def execStyZeropage (byte1 : Byte) (s : State) : Host.Outcome State Fault Refusal :=
  decode2 .sty .zeropage byte1 s

end Sys2Proof.Machine
end

