-- ==== Sys2Proof/Machine/ZeropageX.lean ====
section
/-! DEFINITION. The meanings of the 16 ZEROPAGE_X instructions (R274 and the rule of each). -/

namespace Sys2Proof.Machine

/-- `ADC` ZEROPAGE_X: R275. -/
def execAdcZeropageX (byte1 : Byte) (s : State) : Host.Outcome State Fault Refusal :=
  decode2 .adc .zeropageX byte1 s

/-- `AND` ZEROPAGE_X: R276. -/
def execAndZeropageX (byte1 : Byte) (s : State) : Host.Outcome State Fault Refusal :=
  decode2 .and .zeropageX byte1 s

/-- `ASL` ZEROPAGE_X: R277. -/
def execAslZeropageX (byte1 : Byte) (s : State) : Host.Outcome State Fault Refusal :=
  decode2 .asl .zeropageX byte1 s

/-- `CMP` ZEROPAGE_X: R278. -/
def execCmpZeropageX (byte1 : Byte) (s : State) : Host.Outcome State Fault Refusal :=
  decode2 .cmp .zeropageX byte1 s

/-- `DEC` ZEROPAGE_X: R279. -/
def execDecZeropageX (byte1 : Byte) (s : State) : Host.Outcome State Fault Refusal :=
  decode2 .dec .zeropageX byte1 s

/-- `EOR` ZEROPAGE_X: R280. -/
def execEorZeropageX (byte1 : Byte) (s : State) : Host.Outcome State Fault Refusal :=
  decode2 .eor .zeropageX byte1 s

/-- `INC` ZEROPAGE_X: R281. -/
def execIncZeropageX (byte1 : Byte) (s : State) : Host.Outcome State Fault Refusal :=
  decode2 .inc .zeropageX byte1 s

/-- `LDA` ZEROPAGE_X: R282. -/
def execLdaZeropageX (byte1 : Byte) (s : State) : Host.Outcome State Fault Refusal :=
  decode2 .lda .zeropageX byte1 s

/-- `LDY` ZEROPAGE_X: R283. -/
def execLdyZeropageX (byte1 : Byte) (s : State) : Host.Outcome State Fault Refusal :=
  decode2 .ldy .zeropageX byte1 s

/-- `LSR` ZEROPAGE_X: R284. -/
def execLsrZeropageX (byte1 : Byte) (s : State) : Host.Outcome State Fault Refusal :=
  decode2 .lsr .zeropageX byte1 s

/-- `ORA` ZEROPAGE_X: R285. -/
def execOraZeropageX (byte1 : Byte) (s : State) : Host.Outcome State Fault Refusal :=
  decode2 .ora .zeropageX byte1 s

/-- `ROL` ZEROPAGE_X: R286. -/
def execRolZeropageX (byte1 : Byte) (s : State) : Host.Outcome State Fault Refusal :=
  decode2 .rol .zeropageX byte1 s

/-- `ROR` ZEROPAGE_X: R287. -/
def execRorZeropageX (byte1 : Byte) (s : State) : Host.Outcome State Fault Refusal :=
  decode2 .ror .zeropageX byte1 s

/-- `SBC` ZEROPAGE_X: R288. -/
def execSbcZeropageX (byte1 : Byte) (s : State) : Host.Outcome State Fault Refusal :=
  decode2 .sbc .zeropageX byte1 s

/-- `STA` ZEROPAGE_X: R289. -/
def execStaZeropageX (byte1 : Byte) (s : State) : Host.Outcome State Fault Refusal :=
  decode2 .sta .zeropageX byte1 s

/-- `STY` ZEROPAGE_X: R290. -/
def execStyZeropageX (byte1 : Byte) (s : State) : Host.Outcome State Fault Refusal :=
  decode2 .sty .zeropageX byte1 s

end Sys2Proof.Machine
end

