-- ==== Sys2Proof/Machine/ZeropageY.lean ====
section
/-! DEFINITION. The meanings of the 2 ZEROPAGE_Y instructions (R291 and the rule of each). -/

namespace Sys2Proof.Machine

/-- `LDX` ZEROPAGE_Y: R292. -/
def execLdxZeropageY (byte1 : Byte) (s : State) : Host.Outcome State Fault Refusal :=
  decode2 .ldx .zeropageY byte1 s

/-- `STX` ZEROPAGE_Y: R293. -/
def execStxZeropageY (byte1 : Byte) (s : State) : Host.Outcome State Fault Refusal :=
  decode2 .stx .zeropageY byte1 s

end Sys2Proof.Machine
end

