-- ==== Sys2Proof/Machine/Dispatch.lean ====
section
/-! DEFINITION. Dispatch: one arm per constructor of `Instr`, each one direct call of the instruction's own meaning. -/

namespace Sys2Proof.Machine

def exec (i : Instr) (s : State) : Host.Outcome State Fault Refusal :=
  match i with
  | .adcImmediate byte1 => Sys2Proof.Machine.execAdcImmediate byte1 s
  | .adcZeropage byte1 => Sys2Proof.Machine.execAdcZeropage byte1 s
  | .adcZeropageX byte1 => Sys2Proof.Machine.execAdcZeropageX byte1 s
  | .adcAbsolute byte1 byte2 => Sys2Proof.Machine.execAdcAbsolute byte1 byte2 s
  | .adcAbsoluteX byte1 byte2 => Sys2Proof.Machine.execAdcAbsoluteX byte1 byte2 s
  | .adcAbsoluteY byte1 byte2 => Sys2Proof.Machine.execAdcAbsoluteY byte1 byte2 s
  | .adcIndirectX byte1 => Sys2Proof.Machine.execAdcIndirectX byte1 s
  | .adcIndirectY byte1 => Sys2Proof.Machine.execAdcIndirectY byte1 s
  | .andImmediate byte1 => Sys2Proof.Machine.execAndImmediate byte1 s
  | .andZeropage byte1 => Sys2Proof.Machine.execAndZeropage byte1 s
  | .andZeropageX byte1 => Sys2Proof.Machine.execAndZeropageX byte1 s
  | .andAbsolute byte1 byte2 => Sys2Proof.Machine.execAndAbsolute byte1 byte2 s
  | .andAbsoluteX byte1 byte2 => Sys2Proof.Machine.execAndAbsoluteX byte1 byte2 s
  | .andAbsoluteY byte1 byte2 => Sys2Proof.Machine.execAndAbsoluteY byte1 byte2 s
  | .andIndirectX byte1 => Sys2Proof.Machine.execAndIndirectX byte1 s
  | .andIndirectY byte1 => Sys2Proof.Machine.execAndIndirectY byte1 s
  | .aslAccumulator => Sys2Proof.Machine.execAslAccumulator s
  | .aslZeropage byte1 => Sys2Proof.Machine.execAslZeropage byte1 s
  | .aslZeropageX byte1 => Sys2Proof.Machine.execAslZeropageX byte1 s
  | .aslAbsolute byte1 byte2 => Sys2Proof.Machine.execAslAbsolute byte1 byte2 s
  | .aslAbsoluteX byte1 byte2 => Sys2Proof.Machine.execAslAbsoluteX byte1 byte2 s
  | .bccRelative byte1 => Sys2Proof.Machine.execBccRelative byte1 s
  | .bcsRelative byte1 => Sys2Proof.Machine.execBcsRelative byte1 s
  | .beqRelative byte1 => Sys2Proof.Machine.execBeqRelative byte1 s
  | .bitZeropage byte1 => Sys2Proof.Machine.execBitZeropage byte1 s
  | .bitAbsolute byte1 byte2 => Sys2Proof.Machine.execBitAbsolute byte1 byte2 s
  | .bmiRelative byte1 => Sys2Proof.Machine.execBmiRelative byte1 s
  | .bneRelative byte1 => Sys2Proof.Machine.execBneRelative byte1 s
  | .bplRelative byte1 => Sys2Proof.Machine.execBplRelative byte1 s
  | .brkImplied => Sys2Proof.Machine.execBrkImplied s
  | .bvcRelative byte1 => Sys2Proof.Machine.execBvcRelative byte1 s
  | .bvsRelative byte1 => Sys2Proof.Machine.execBvsRelative byte1 s
  | .clcImplied => Sys2Proof.Machine.execClcImplied s
  | .cldImplied => Sys2Proof.Machine.execCldImplied s
  | .cliImplied => Sys2Proof.Machine.execCliImplied s
  | .clvImplied => Sys2Proof.Machine.execClvImplied s
  | .cmpImmediate byte1 => Sys2Proof.Machine.execCmpImmediate byte1 s
  | .cmpZeropage byte1 => Sys2Proof.Machine.execCmpZeropage byte1 s
  | .cmpZeropageX byte1 => Sys2Proof.Machine.execCmpZeropageX byte1 s
  | .cmpAbsolute byte1 byte2 => Sys2Proof.Machine.execCmpAbsolute byte1 byte2 s
  | .cmpAbsoluteX byte1 byte2 => Sys2Proof.Machine.execCmpAbsoluteX byte1 byte2 s
  | .cmpAbsoluteY byte1 byte2 => Sys2Proof.Machine.execCmpAbsoluteY byte1 byte2 s
  | .cmpIndirectX byte1 => Sys2Proof.Machine.execCmpIndirectX byte1 s
  | .cmpIndirectY byte1 => Sys2Proof.Machine.execCmpIndirectY byte1 s
  | .cpxImmediate byte1 => Sys2Proof.Machine.execCpxImmediate byte1 s
  | .cpxZeropage byte1 => Sys2Proof.Machine.execCpxZeropage byte1 s
  | .cpxAbsolute byte1 byte2 => Sys2Proof.Machine.execCpxAbsolute byte1 byte2 s
  | .cpyImmediate byte1 => Sys2Proof.Machine.execCpyImmediate byte1 s
  | .cpyZeropage byte1 => Sys2Proof.Machine.execCpyZeropage byte1 s
  | .cpyAbsolute byte1 byte2 => Sys2Proof.Machine.execCpyAbsolute byte1 byte2 s
  | .decZeropage byte1 => Sys2Proof.Machine.execDecZeropage byte1 s
  | .decZeropageX byte1 => Sys2Proof.Machine.execDecZeropageX byte1 s
  | .decAbsolute byte1 byte2 => Sys2Proof.Machine.execDecAbsolute byte1 byte2 s
  | .decAbsoluteX byte1 byte2 => Sys2Proof.Machine.execDecAbsoluteX byte1 byte2 s
  | .dexImplied => Sys2Proof.Machine.execDexImplied s
  | .deyImplied => Sys2Proof.Machine.execDeyImplied s
  | .eorImmediate byte1 => Sys2Proof.Machine.execEorImmediate byte1 s
  | .eorZeropage byte1 => Sys2Proof.Machine.execEorZeropage byte1 s
  | .eorZeropageX byte1 => Sys2Proof.Machine.execEorZeropageX byte1 s
  | .eorAbsolute byte1 byte2 => Sys2Proof.Machine.execEorAbsolute byte1 byte2 s
  | .eorAbsoluteX byte1 byte2 => Sys2Proof.Machine.execEorAbsoluteX byte1 byte2 s
  | .eorAbsoluteY byte1 byte2 => Sys2Proof.Machine.execEorAbsoluteY byte1 byte2 s
  | .eorIndirectX byte1 => Sys2Proof.Machine.execEorIndirectX byte1 s
  | .eorIndirectY byte1 => Sys2Proof.Machine.execEorIndirectY byte1 s
  | .incZeropage byte1 => Sys2Proof.Machine.execIncZeropage byte1 s
  | .incZeropageX byte1 => Sys2Proof.Machine.execIncZeropageX byte1 s
  | .incAbsolute byte1 byte2 => Sys2Proof.Machine.execIncAbsolute byte1 byte2 s
  | .incAbsoluteX byte1 byte2 => Sys2Proof.Machine.execIncAbsoluteX byte1 byte2 s
  | .inxImplied => Sys2Proof.Machine.execInxImplied s
  | .inyImplied => Sys2Proof.Machine.execInyImplied s
  | .jmpAbsolute byte1 byte2 => Sys2Proof.Machine.execJmpAbsolute byte1 byte2 s
  | .jmpIndirect byte1 byte2 => Sys2Proof.Machine.execJmpIndirect byte1 byte2 s
  | .jsrAbsolute byte1 byte2 => Sys2Proof.Machine.execJsrAbsolute byte1 byte2 s
  | .ldaImmediate byte1 => Sys2Proof.Machine.execLdaImmediate byte1 s
  | .ldaZeropage byte1 => Sys2Proof.Machine.execLdaZeropage byte1 s
  | .ldaZeropageX byte1 => Sys2Proof.Machine.execLdaZeropageX byte1 s
  | .ldaAbsolute byte1 byte2 => Sys2Proof.Machine.execLdaAbsolute byte1 byte2 s
  | .ldaAbsoluteX byte1 byte2 => Sys2Proof.Machine.execLdaAbsoluteX byte1 byte2 s
  | .ldaAbsoluteY byte1 byte2 => Sys2Proof.Machine.execLdaAbsoluteY byte1 byte2 s
  | .ldaIndirectX byte1 => Sys2Proof.Machine.execLdaIndirectX byte1 s
  | .ldaIndirectY byte1 => Sys2Proof.Machine.execLdaIndirectY byte1 s
  | .ldxImmediate byte1 => Sys2Proof.Machine.execLdxImmediate byte1 s
  | .ldxZeropage byte1 => Sys2Proof.Machine.execLdxZeropage byte1 s
  | .ldxZeropageY byte1 => Sys2Proof.Machine.execLdxZeropageY byte1 s
  | .ldxAbsolute byte1 byte2 => Sys2Proof.Machine.execLdxAbsolute byte1 byte2 s
  | .ldxAbsoluteY byte1 byte2 => Sys2Proof.Machine.execLdxAbsoluteY byte1 byte2 s
  | .ldyImmediate byte1 => Sys2Proof.Machine.execLdyImmediate byte1 s
  | .ldyZeropage byte1 => Sys2Proof.Machine.execLdyZeropage byte1 s
  | .ldyZeropageX byte1 => Sys2Proof.Machine.execLdyZeropageX byte1 s
  | .ldyAbsolute byte1 byte2 => Sys2Proof.Machine.execLdyAbsolute byte1 byte2 s
  | .ldyAbsoluteX byte1 byte2 => Sys2Proof.Machine.execLdyAbsoluteX byte1 byte2 s
  | .lsrAccumulator => Sys2Proof.Machine.execLsrAccumulator s
  | .lsrZeropage byte1 => Sys2Proof.Machine.execLsrZeropage byte1 s
  | .lsrZeropageX byte1 => Sys2Proof.Machine.execLsrZeropageX byte1 s
  | .lsrAbsolute byte1 byte2 => Sys2Proof.Machine.execLsrAbsolute byte1 byte2 s
  | .lsrAbsoluteX byte1 byte2 => Sys2Proof.Machine.execLsrAbsoluteX byte1 byte2 s
  | .nopImplied => Sys2Proof.Machine.execNopImplied s
  | .oraImmediate byte1 => Sys2Proof.Machine.execOraImmediate byte1 s
  | .oraZeropage byte1 => Sys2Proof.Machine.execOraZeropage byte1 s
  | .oraZeropageX byte1 => Sys2Proof.Machine.execOraZeropageX byte1 s
  | .oraAbsolute byte1 byte2 => Sys2Proof.Machine.execOraAbsolute byte1 byte2 s
  | .oraAbsoluteX byte1 byte2 => Sys2Proof.Machine.execOraAbsoluteX byte1 byte2 s
  | .oraAbsoluteY byte1 byte2 => Sys2Proof.Machine.execOraAbsoluteY byte1 byte2 s
  | .oraIndirectX byte1 => Sys2Proof.Machine.execOraIndirectX byte1 s
  | .oraIndirectY byte1 => Sys2Proof.Machine.execOraIndirectY byte1 s
  | .phaImplied => Sys2Proof.Machine.execPhaImplied s
  | .phpImplied => Sys2Proof.Machine.execPhpImplied s
  | .plaImplied => Sys2Proof.Machine.execPlaImplied s
  | .plpImplied => Sys2Proof.Machine.execPlpImplied s
  | .rolAccumulator => Sys2Proof.Machine.execRolAccumulator s
  | .rolZeropage byte1 => Sys2Proof.Machine.execRolZeropage byte1 s
  | .rolZeropageX byte1 => Sys2Proof.Machine.execRolZeropageX byte1 s
  | .rolAbsolute byte1 byte2 => Sys2Proof.Machine.execRolAbsolute byte1 byte2 s
  | .rolAbsoluteX byte1 byte2 => Sys2Proof.Machine.execRolAbsoluteX byte1 byte2 s
  | .rorAccumulator => Sys2Proof.Machine.execRorAccumulator s
  | .rorZeropage byte1 => Sys2Proof.Machine.execRorZeropage byte1 s
  | .rorZeropageX byte1 => Sys2Proof.Machine.execRorZeropageX byte1 s
  | .rorAbsolute byte1 byte2 => Sys2Proof.Machine.execRorAbsolute byte1 byte2 s
  | .rorAbsoluteX byte1 byte2 => Sys2Proof.Machine.execRorAbsoluteX byte1 byte2 s
  | .rtiImplied => Sys2Proof.Machine.execRtiImplied s
  | .rtsImplied => Sys2Proof.Machine.execRtsImplied s
  | .sbcImmediate byte1 => Sys2Proof.Machine.execSbcImmediate byte1 s
  | .sbcZeropage byte1 => Sys2Proof.Machine.execSbcZeropage byte1 s
  | .sbcZeropageX byte1 => Sys2Proof.Machine.execSbcZeropageX byte1 s
  | .sbcAbsolute byte1 byte2 => Sys2Proof.Machine.execSbcAbsolute byte1 byte2 s
  | .sbcAbsoluteX byte1 byte2 => Sys2Proof.Machine.execSbcAbsoluteX byte1 byte2 s
  | .sbcAbsoluteY byte1 byte2 => Sys2Proof.Machine.execSbcAbsoluteY byte1 byte2 s
  | .sbcIndirectX byte1 => Sys2Proof.Machine.execSbcIndirectX byte1 s
  | .sbcIndirectY byte1 => Sys2Proof.Machine.execSbcIndirectY byte1 s
  | .secImplied => Sys2Proof.Machine.execSecImplied s
  | .sedImplied => Sys2Proof.Machine.execSedImplied s
  | .seiImplied => Sys2Proof.Machine.execSeiImplied s
  | .staZeropage byte1 => Sys2Proof.Machine.execStaZeropage byte1 s
  | .staZeropageX byte1 => Sys2Proof.Machine.execStaZeropageX byte1 s
  | .staAbsolute byte1 byte2 => Sys2Proof.Machine.execStaAbsolute byte1 byte2 s
  | .staAbsoluteX byte1 byte2 => Sys2Proof.Machine.execStaAbsoluteX byte1 byte2 s
  | .staAbsoluteY byte1 byte2 => Sys2Proof.Machine.execStaAbsoluteY byte1 byte2 s
  | .staIndirectX byte1 => Sys2Proof.Machine.execStaIndirectX byte1 s
  | .staIndirectY byte1 => Sys2Proof.Machine.execStaIndirectY byte1 s
  | .stxZeropage byte1 => Sys2Proof.Machine.execStxZeropage byte1 s
  | .stxZeropageY byte1 => Sys2Proof.Machine.execStxZeropageY byte1 s
  | .stxAbsolute byte1 byte2 => Sys2Proof.Machine.execStxAbsolute byte1 byte2 s
  | .styZeropage byte1 => Sys2Proof.Machine.execStyZeropage byte1 s
  | .styZeropageX byte1 => Sys2Proof.Machine.execStyZeropageX byte1 s
  | .styAbsolute byte1 byte2 => Sys2Proof.Machine.execStyAbsolute byte1 byte2 s
  | .taxImplied => Sys2Proof.Machine.execTaxImplied s
  | .tayImplied => Sys2Proof.Machine.execTayImplied s
  | .tsxImplied => Sys2Proof.Machine.execTsxImplied s
  | .txaImplied => Sys2Proof.Machine.execTxaImplied s
  | .txsImplied => Sys2Proof.Machine.execTxsImplied s
  | .tyaImplied => Sys2Proof.Machine.execTyaImplied s

end Sys2Proof.Machine
end

