-- ==== Sys2Proof/Machine/Engine.lean ====
section
/-! DEFINITION. The engine's transactions `create`, `step` and `run` (42_engine.md R170, R176, R184). -/

namespace Sys2Proof.Machine

/-- `create(C)`: `PRG` fixed, the cursor at 0, `DECODING`, no lines (R170). -/
def newEngine (prg : Memory) : Engine where
  prg    := prg
  cursor := 0
  est    := .decoding
  lines  := []

/-- What a step does with what stands at the cursor (R176): run a recognised instruction, skip an unrecognised byte. A
descriptor that pairs a mnemonic and a mode no row of `spec/opcode_table.json` pairs has the effect R176 gives every
descriptor (log entry 21). -/
def execDecoded (window : List Byte) (s : State) : Host.Outcome State Fault Refusal :=
  match decode s.cfg.table window with
  | .instr i _ => Sys2Proof.Machine.exec i s
  | .rejected (.unrecognised _) => .next (finishEngine (takeException .decodeError s))
  | .rejected (.noInstruction d) => decodeAs d.mnemonic d.mode (window.getD 1 0) (window.getD 2 0) s
  | .rejected .noByte => .fault .readOutsideRegion
  | .rejected (.truncated _) => .fault .readOutsideRegion

/-- `step(E)` (R176): the leading marker at offset 0, the exhaustion check, then one decode or one skip. An exhausted
engine does nothing (R188). -/
def stepEngine (s : State) : Host.Outcome State Fault Refusal :=
  match s.engine with
  | none => .refused .noEngine
  | some e =>
    match e.est with
    | .exhausted => .next s
    | .decoding =>
      if exhaustedAt s.cfg.table e.prg e.cursor then .next (s.setEngine e.lead.exhaust)
      else execDecoded (e.prg.window e.cursor 3) (s.setEngine e.lead)

/-- At most `fuel` steps, until the engine is exhausted. -/
def runEngine : Nat → State → Host.Outcome State Fault Refusal
  | 0, s => .next s
  | fuel + 1, s =>
    match s.engine with
    | none => .refused .noEngine
    | some e =>
      match e.est with
      | .exhausted => .next s
      | .decoding =>
        match stepEngine s with
        | .next s' => runEngine fuel s'
        | .fault r => .fault r
        | .refused r => .refused r

/-- How many steps `run` makes at most: `max(L, 1)` (R192). -/
def runBound (s : State) : Nat :=
  match s.engine with
  | none => 1
  | some e => max e.prg.size 1

end Sys2Proof.Machine
end

