-- ==== Sys2Proof/Machine/Render.lean ====
section
/-! DEFINITION. The rendering of line records and the accumulated text (42_engine.md R180, R182, R183, R186). -/

namespace Sys2Proof.Machine

/-- `bytes_text`: the machine bytes, separated by single spaces (R180). -/
def bytesText (cfg : Config) : List Byte → Text
  | [] => []
  | [x] => hexpad x.toNat cfg.byteHexWidth
  | x :: y :: rest => hexpad x.toNat cfg.byteHexWidth ++ [' '] ++ bytesText cfg (y :: rest)

/-- The assembly text of an instruction: the mnemonic, then one space and the operand text where there is one
(30_encoding.md R102). -/
def assemblyText (m : Mnemonic) (operand : Text) : Text :=
  mnemonicText m ++ (if operand = [] then [] else [' '] ++ operand)

/-- `render(r)`: R180 for an instruction, R182 for the leading and R183 for the trailing marker. -/
def render (cfg : Config) : Line → Text
  | .lead => cfg.markerLead
  | .instr offset bytes m operand =>
    hexpad offset 4 ++ [' '] ++ ljust (bytesText cfg bytes) cfg.bytesFieldWidth ++ [' '] ++ assemblyText m operand
  | .trail offset => cfg.markerTrailPrefix ++ hexpad offset 4

/-- `text(E)`: every record rendered, in order, each followed by `NEWLINE` (R186). -/
def textOf (cfg : Config) (lines : List Line) : Text :=
  lines.flatMap (fun r => render cfg r ++ cfg.newline)

end Sys2Proof.Machine
end

