-- ==== Sys2Proof/Machine/Transactions.lean ====
section
/-! DEFINITION. The transactions of 00_scope.md R12, each one indivisible step (20_memory.md R72). -/

namespace Sys2Proof.Machine

/-- Answer the host. -/
def reply (r : Reply) (s : State) : State :=
  { s with port := { s.port with replies := s.port.replies ++ [r] } }

/-- `load` (40_rom_container.md R120): only with `CST = EMPTY`. -/
def load (src : Source) (s : State) : Host.Outcome State Fault Refusal :=
  match s.rom with
  | .empty =>
    match readContainer s.cfg.checkMagic src with
    | .ok c => .next (reply .loaded { s with rom := .loaded c })
    | .error x => .next (reply (.loadError x) (takeException (.load x) s))
  | .loaded _ => .refused .loadNotPermitted
  | .failedIo => .refused .loadNotPermitted
  | .failedFormat => .refused .loadNotPermitted

/-- What an accessor of the container answers (R143): it "changes no state", and needs `CST = LOADED`. -/
def access (f : Container → Reply) (s : State) : Host.Outcome State Fault Refusal :=
  match s.rom with
  | .loaded c => .next (reply (f c) s)
  | .empty => .refused .containerNotLoaded
  | .failedIo => .refused .containerNotLoaded
  | .failedFormat => .refused .containerNotLoaded

/-- `create` (42_engine.md R170): an engine on the loaded container's program region. A second `create` gives a second
engine, which takes the place of the first (70_reset_and_hazards.md R444; log entry 7). -/
def create (s : State) : Host.Outcome State Fault Refusal :=
  match s.rom with
  | .loaded c => .next (s.setEngine (newEngine c.prg))
  | .empty => .refused .containerNotLoaded
  | .failedIo => .refused .containerNotLoaded
  | .failedFormat => .refused .containerNotLoaded

/-- `run` (R184): steps until the engine is exhausted, which it is after at most `runBound` of them (R192). -/
def run (s : State) : Host.Outcome State Fault Refusal :=
  match s.engine with
  | none => .refused .noEngine
  | some _ => runEngine (runBound s) s

/-- `text` (R186): "`text` changes no state". -/
def readText (s : State) : Host.Outcome State Fault Refusal :=
  match s.engine with
  | none => .refused .noEngine
  | some e => .next (reply (.text (textOf s.cfg e.lines)) s)

/-- A reset (70_reset_and_hazards.md R430): "discards the container and every engine made from it; nothing survives a
reset except `T` and the configuration". The port is the host's (log entries 4, 6). -/
def resetBlock (s : State) : State := { State.resetWith s.cfg with port := s.port }

/-- One transaction. -/
def perform (r : Request) (s : State) : Host.Outcome State Fault Refusal :=
  match r with
  | .load src => load src s
  | .field f => access (fun c => .field (c.hdr.field f)) s
  | .programRegion => access (fun c => .region c.prg.bytes) s
  | .trainer => access (fun c => .region c.trn.bytes) s
  | .graphics => access (fun c => .region c.chr.bytes) s
  | .find b => .next (reply (.found (Sys2Proof.find s.cfg.table b)) s)
  | .decode mode byte1 byte2 =>
    let (n, operand) := decodeOperand s.cfg.indirectRender mode byte1 byte2
    .next (reply (.decoded n operand) s)
  | .create => create s
  | .step => stepEngine s
  | .run => run s
  | .text => readText s
  | .reset => .next (resetBlock s)

end Sys2Proof.Machine
end

