-- ==== Sys2Proof/Machine/Step.lean ====
section
/-! DEFINITION. One step of the machine, and how the host places an instruction word where the next step fetches it. -/

namespace Sys2Proof.Machine

/-- One step: the oldest request of the host, or, where the host has asked for nothing, one `step` of the engine (log
entry 5). -/
def step (s : State) : Host.Outcome State Fault Refusal :=
  match s.port.requests with
  | [] => stepEngine s
  | r :: rest => perform r { s with port := { s.port with requests := rest } }

/-- The engine with an instruction's bytes at its cursor, ready to decode them: the bytes before the cursor stand as they
were (padded with zeros where there are fewer), the bytes after the instruction as well. -/
def Engine.withBytes (e : Engine) (bs : List Byte) : Engine :=
  let old := e.prg.bytes
  { e with
    prg := Memory.ofBytes
      (old.take e.cursor ++ List.replicate (e.cursor - old.length) 0 ++ bs ++ old.drop (e.cursor + bs.length))
    est := .decoding }

/-- The state in which the next step fetches and runs the instruction whose bits are `w`: nothing is asked for, and the
bytes stand at the cursor of a decoding engine, a new one where there is none (log entry 5). -/
def State.withFetchWord (s : State) (nbits w : Nat) : State :=
  let bs := tableWordBytes nbits w
  let e := match s.engine with
    | some e => e.withBytes bs
    | none => newEngine (Memory.ofBytes bs)
  { s with engine := some e, port := { s.port with requests := [] } }

end Sys2Proof.Machine
end

