-- ==== Sys2Proof/Safety.lean ====
section
/-! DEFINITION. What a safe run is, and the words the statements use: the invariant, the spec's own step written over the
region's bytes, the linear sweep of a region, and the runs a host can drive. -/

namespace Sys2Proof.Machine

/-! ### The spec's words over a region -/

/-- `PRG[c .. c+n)` (00_scope.md R6). -/
def Memory.slice (m : Memory) (c n : Nat) : List Byte := (m.bytes.drop c).take n

/-- The engine after one recognised instruction of `n` bytes (42_engine.md R176): its record appended, the cursor past it,
and the trailing marker with `EXHAUSTED` where the new cursor is exhausted. Everything else is as it was. -/
def Engine.recorded (T : List Descriptor) (e : Engine) (n : Nat) (m : Mnemonic) (operand : Text) : Engine :=
  if exhaustedAt T e.prg (e.cursor + n) then
    ⟨e.prg, e.cursor + n, .exhausted,
      e.lines ++ [.instr e.cursor (e.prg.slice e.cursor n) m operand, .trail (e.cursor + n)]⟩
  else
    ⟨e.prg, e.cursor + n, .decoding, e.lines ++ [.instr e.cursor (e.prg.slice e.cursor n) m operand]⟩

/-- The engine after the skip of one byte (47_unrecognized.md R390), with the records `start` appended before it. -/
def Engine.skipped (T : List Descriptor) (e : Engine) (start : List Line) : Engine :=
  if exhaustedAt T e.prg (e.cursor + 1) then
    ⟨e.prg, e.cursor + 1, .exhausted, e.lines ++ start ++ [.trail (e.cursor + 1)]⟩
  else
    ⟨e.prg, e.cursor + 1, .decoding, e.lines ++ start⟩

/-- The leading marker as the records a step starts with (42_engine.md R182). -/
def leadAt (c : Nat) : List Line := if c = 0 then [.lead] else []

/-- The pseudocode of R176 for an engine in state `DECODING`, over the table and the region's bytes alone: no instruction
constructor stands between the descriptor and its effect. -/
def Engine.ruleStep (cfg : Config) (e : Engine) : Engine :=
  let e1 : Engine := ⟨e.prg, e.cursor, e.est, e.lines ++ leadAt e.cursor⟩
  if exhaustedAt cfg.table e.prg e.cursor then
    ⟨e.prg, e.cursor, .exhausted, e1.lines ++ [.trail e.cursor]⟩
  else
    match (e.prg.bytes[e.cursor]?).bind (find cfg.table) with
    | none => e.skipped cfg.table (leadAt e.cursor)
    | some d =>
      e1.recorded cfg.table d.mode.len d.mnemonic
        (operandText cfg.indirectRender d.mode (e.prg.bytes.getD (e.cursor + 1) 0) (e.prg.bytes.getD (e.cursor + 2) 0))

/-- The linear sweep of a region from offset 0 (42_engine.md R184, R190): `Swept cfg prg c ls k` says that going through
`prg` in address order up to the offset `c` gives the instruction records `ls` and skips `k` bytes. -/
inductive Swept (cfg : Config) (prg : Memory) : Nat → List Line → Nat → Prop where
  | start : Swept cfg prg 0 [] 0
  | skip {c : Nat} {ls : List Line} {k : Nat} {b : Byte} (before : Swept cfg prg c ls k)
      (byte : prg.bytes[c]? = some b) (absent : find cfg.table b = none) : Swept cfg prg (c + 1) ls (k + 1)
  | instr {c : Nat} {ls : List Line} {k : Nat} {b : Byte} {d : Descriptor} (before : Swept cfg prg c ls k)
      (byte : prg.bytes[c]? = some b) (row : find cfg.table b = some d) (fits : c + d.mode.len ≤ prg.size) :
      Swept cfg prg (c + d.mode.len)
        (ls ++ [.instr c (prg.slice c d.mode.len) d.mnemonic
          (operandText cfg.indirectRender d.mode (prg.bytes.getD (c + 1) 0) (prg.bytes.getD (c + 2) 0))]) k

/-- The number of machine bytes a record shows. -/
def Line.byteCount : Line → Nat
  | .instr _ bytes _ _ => bytes.length
  | .lead => 0
  | .trail _ => 0

/-- One record ends where or before the next begins (R190). -/
def Line.before : Line → Line → Prop
  | .instr o bytes _ _, .instr o' _ _ _ => o < o' ∧ o + bytes.length ≤ o'
  | _, _ => False

/-- A record lies inside the first `c` bytes of a region. -/
def Line.endsBy (c : Nat) : Line → Prop
  | .instr o bytes _ _ => o + bytes.length ≤ c
  | _ => False

/-- The number a hexadecimal numeral denotes (00_scope.md R7). -/
def hexValue (t : Text) : Nat :=
  t.foldl (fun v ch => 16 * v + (['0', '1', '2', '3', '4', '5', '6', '7', '8', '9', 'a', 'b', 'c', 'd', 'e', 'f'].idxOf ch)) 0

/-- A character in the range 0x20 to 0x7e (42_engine.md R186). -/
abbrev printable (ch : Char) : Prop := 0x20 ≤ ch.toNat ∧ ch.toNat ≤ 0x7e

/-! ### The invariant -/

/-- The header fields are those of some six header bytes: they agree with each other as R24 to R37 say. -/
def Header.Inv (h : Header) : Prop :=
  ∃ f4 f5 f6 f7 f8 f9 : Byte, h = Header.ofBytes f4 f5 f6 f7 f8 f9

/-- A loaded container (10_state.md R39): a coherent header, and buffers without gaps, of the lengths the header gives. -/
def Container.Inv (c : Container) : Prop :=
  c.hdr.Inv ∧ c.trn.isRegion ∧ c.prg.isRegion ∧ c.chr.isRegion ∧
  c.trn.size = c.hdr.trainerSize ∧ c.prg.size = c.hdr.programSizeBytes ∧ c.chr.size = c.hdr.graphicsSizeBytes

/-- An engine (42_engine.md R190): the cursor within the region, and the records those of the sweep up to the cursor, after
the leading marker and, in the terminal state, before the trailing one. -/
def Engine.Inv (cfg : Config) (e : Engine) : Prop :=
  e.prg.isRegion ∧ e.cursor ≤ e.prg.size ∧
  match e.est with
  | .decoding =>
    (e.cursor = 0 ∧ e.lines = []) ∨
    (e.cursor ≠ 0 ∧ exhaustedAt cfg.table e.prg e.cursor = false ∧
      ∃ ls k, e.lines = .lead :: ls ∧ Swept cfg e.prg e.cursor ls k)
  | .exhausted =>
    exhaustedAt cfg.table e.prg e.cursor = true ∧
      ∃ ls k, e.lines = .lead :: (ls ++ [.trail e.cursor]) ∧ Swept cfg e.prg e.cursor ls k

/-- The machine's invariant: the table has the facts the document settles (41_instruction_table.md R160), a loaded container
is coherent, and an engine decodes the program region of the loaded container (10_state.md R43). -/
def State.Inv (s : State) : Prop :=
  Table.settled s.cfg.table ∧
  (∀ c, s.rom = .loaded c → c.Inv) ∧
  (∀ e, s.engine = some e → e.Inv s.cfg ∧ ∃ c, s.rom = .loaded c ∧ e.prg = c.prg)

/-! ### Runs -/

/-- The host asks for one more transaction. -/
def State.ask (s : State) (r : Request) : State :=
  { s with port := { s.port with requests := s.port.requests ++ [r] } }

/-- The states a host can bring the block to from reset under a table with the settled facts, by asking and by letting it
step. -/
inductive Reachable : State → Prop where
  | reset (cfg : Config) (table : Table.settled cfg.table) : Reachable (State.resetWith cfg)
  | ask {s : State} (r : Request) (before : Reachable s) : Reachable (s.ask r)
  | step {s s' : State} (before : Reachable s) (next : step s = .next s') : Reachable s'

/-- `n` steps of the engine, one after another, exhausted or not. -/
def stepTimes : Nat → State → Host.Outcome State Fault Refusal
  | 0, s => .next s
  | n + 1, s =>
    match stepEngine s with
    | .next s' => stepTimes n s'
    | .fault r => .fault r
    | .refused r => .refused r

/-- "Repeat `step(E)` until `E.EST = EXHAUSTED`" (42_engine.md R184): after `n` steps from `s` the engine is exhausted for
the first time, in the state `s'`. -/
def ExhaustedAfter (n : Nat) (s s' : State) : Prop :=
  stepTimes n s = .next s' ∧ (∃ e, s'.engine = some e ∧ e.est = .exhausted) ∧
  ∀ m, m < n → ∃ t e, stepTimes m s = .next t ∧ t.engine = some e ∧ e.est = .decoding

/-- A safe state: the next step does not fault. A refusal is a transaction out of order (60_exceptions.md R414), which is the
host's doing. -/
def State.safe (s : State) : Prop := ∀ r, step s ≠ .fault r

end Sys2Proof.Machine
end

