-- ==== Sys2Proof/Certificates/Slice0/Obligations.lean ====
section
/-! DEFINITION. The statements for the provers, from the numbered rules of the spec. -/

open Sys2Proof Sys2Proof.Machine

/-! ### Encoding and the table -/

/-- 30_encoding.md R91 to R93 on one word of each mode, under the default table, whose rows are the spec's general knowledge
but for two (log entry 2). -/
def Obligations.SpecWordsDecode : Prop :=
  decode Config.default.table [0x0a] = .instr .aslAccumulator [] ∧
  decode Config.default.table [0x00] = .instr .brkImplied [] ∧
  decode Config.default.table [0xa9, 0x05] = .instr (.ldaImmediate 0x05) [] ∧
  decode Config.default.table [0x65, 0x05] = .instr (.adcZeropage 0x05) [] ∧
  decode Config.default.table [0x75, 0x7f] = .instr (.adcZeropageX 0x7f) [] ∧
  decode Config.default.table [0xb6, 0x10] = .instr (.ldxZeropageY 0x10) [] ∧
  decode Config.default.table [0xd0, 0xfe] = .instr (.bneRelative 0xfe) [] ∧
  decode Config.default.table [0x61, 0x10] = .instr (.adcIndirectX 0x10) [] ∧
  decode Config.default.table [0x31, 0x05] = .instr (.andIndirectY 0x05) [] ∧
  decode Config.default.table [0x4c, 0x00, 0x80] = .instr (.jmpAbsolute 0x00 0x80) [] ∧
  decode Config.default.table [0x7d, 0xff, 0x12] = .instr (.adcAbsoluteX 0xff 0x12) [] ∧
  decode Config.default.table [0x79, 0x0a, 0x00] = .instr (.adcAbsoluteY 0x0a 0x00) [] ∧
  decode Config.default.table [0x6c, 0xfc, 0xff] = .instr (.jmpIndirect 0xfc 0xff) [] ∧
  decode Config.default.table [0x02, 0xa9, 0x05] = .rejected (.unrecognised 0x02)

/-- The two rows that 41_instruction_table.md R160 settles of every table decode as the document's examples say (R156), with
any operand bytes and whatever stands after them. What `Table.settled` asks of a table is log entry 19's reading. -/
def Obligations.SettledRowsDecode : Prop :=
  ∀ (T : List Descriptor) (byte1 byte2 : Byte) (rest : List Byte), Table.settled T →
    decode T (0xa9 :: byte1 :: rest) = .instr (.ldaImmediate byte1) rest ∧
    decode T (0x4c :: byte1 :: byte2 :: rest) = .instr (.jmpAbsolute byte1 byte2) rest

/-- Decoding what the encoder writes gives the instruction back, with every operand at every value, under every table in
which the instruction is well formed. -/
def Obligations.DecodeEncodeRoundTrip : Prop :=
  ∀ (T : List Descriptor) (i : Instr) (rest : List Byte), i.wf T →
    decode T (encode T i ++ rest) = .instr i rest

/-- Encoding what the decoder reads gives the bytes back, under every table that has no mnemonic and mode twice, the three
named tables among them. -/
def Obligations.EncodeDecodeRoundTrip : Prop :=
  (∀ (T : List Descriptor) (bs rest : List Byte) (i : Instr), (T.map (fun d => (d.mnemonic, d.mode))).Nodup →
    decode T bs = .instr i rest → encode T i ++ rest = bs) ∧
  (∀ n : TableName, (n.rows.map (fun d => (d.mnemonic, d.mode))).Nodup)

/-- Which instructions the three named tables can reach (41_instruction_table.md R160, R163): all but the two shadowed
rows, and all of them under `T_CANONICAL`. -/
def Obligations.WellFormedUnderNamedTables : Prop :=
  ∀ i : Instr,
    i.wf (TableName.rows .canonical) ∧
    (i.wf (TableName.rows (.asTranscribed .zpxFirst)) ↔
      ¬ ((i.mnemonic = .cmp ∨ i.mnemonic = .sta) ∧ i.mode = .absoluteY)) ∧
    (i.wf (TableName.rows (.asTranscribed .absyFirst)) ↔
      ¬ ((i.mnemonic = .cmp ∨ i.mnemonic = .sta) ∧ i.mode = .zeropageX))

/-- 41_instruction_table.md R156: `find` returns the descriptor of least index that carries the byte, and none exactly when
no descriptor does. -/
def Obligations.FindReturnsLeastIndex : Prop :=
  ∀ (T : List Descriptor) (b : Byte),
    (∀ d, find T b = some d ↔
      ∃ k, T[k]? = some d ∧ d.opcode = b ∧ ∀ (j : Nat) (x : Descriptor), j < k → T[j]? = some x → x.opcode ≠ b) ∧
    (find T b = none ↔ ∀ (k : Nat) (x : Descriptor), T[k]? = some x → x.opcode ≠ b)

/-- The facts of 41_instruction_table.md R160 and R163 and the counts of 47_unrecognized.md R392 for the three named
tables, and R156's example that 0x02 is absent from all of them. The rows but for the documented ones are the spec's general
knowledge, the order its decision D3 (log entry 2). -/
def Obligations.NamedTableFacts : Prop :=
  (∀ n : TableName, Table.settled n.rows ∧ find n.rows 0x02 = none) ∧
  (∀ o : DupOrder, Table.asTranscribed (TableName.rows (.asTranscribed o))) ∧
  Table.resolved (TableName.rows .canonical) ∧
  ((TableName.rows (.asTranscribed .zpxFirst)).filter (fun d => d.opcode == 0x99)).map (fun d => (d.mnemonic, d.mode)) =
    [(.sta, .zeropageX), (.sta, .absoluteY)] ∧
  ((TableName.rows (.asTranscribed .zpxFirst)).filter (fun d => d.opcode == 0xd9)).map (fun d => (d.mnemonic, d.mode)) =
    [(.cmp, .zeropageX), (.cmp, .absoluteY)] ∧
  ((List.range 256).filter (fun b => find (TableName.rows (.asTranscribed .zpxFirst)) (BitVec.ofNat 8 b) == none)).length
    = 107 ∧
  ((List.range 256).filter (fun b => find (TableName.rows (.asTranscribed .absyFirst)) (BitVec.ofNat 8 b) == none)).length
    = 107 ∧
  ((List.range 256).filter (fun b => find (TableName.rows .canonical) (BitVec.ofNat 8 b) == none)).length = 105

/-- 41_instruction_table.md R154: the length of every mode. -/
def Obligations.LengthOfEveryMode : Prop :=
  Mode.len .accumulator = 1 ∧ Mode.len .implied = 1 ∧
  Mode.len .immediate = 2 ∧ Mode.len .zeropage = 2 ∧ Mode.len .zeropageX = 2 ∧ Mode.len .zeropageY = 2 ∧
  Mode.len .relative = 2 ∧ Mode.len .indirectX = 2 ∧ Mode.len .indirectY = 2 ∧
  Mode.len .absolute = 3 ∧ Mode.len .absoluteX = 3 ∧ Mode.len .absoluteY = 3 ∧ Mode.len .indirect = 3

/-! ### Text -/

/-- 00_scope.md R8: the 16-bit operand is little-endian. -/
def Obligations.CombineIsLittleEndian : Prop :=
  ∀ lo hi : Byte, combine lo hi = lo.toNat + 256 * hi.toNat ∧ combine lo hi ≤ 65535

/-- 41_instruction_table.md R158: length and operand text of every mode, both values of `INDIRECT_RENDER`. -/
def Obligations.DecodeOfEveryMode : Prop :=
  ∀ (r : IndirectRender) (byte1 byte2 : Byte),
    decodeOperand r .accumulator byte1 byte2 = (1, ['A']) ∧
    decodeOperand r .implied byte1 byte2 = (1, []) ∧
    decodeOperand r .immediate byte1 byte2 = (2, ['#', '$'] ++ hex byte1.toNat) ∧
    decodeOperand r .zeropage byte1 byte2 = (2, ['$'] ++ hex byte1.toNat) ∧
    decodeOperand r .zeropageX byte1 byte2 = (2, ['$'] ++ hex byte1.toNat ++ [',', 'X']) ∧
    decodeOperand r .zeropageY byte1 byte2 = (2, ['$'] ++ hex byte1.toNat ++ [',', 'Y']) ∧
    decodeOperand r .relative byte1 byte2 = (2, ['$'] ++ hex byte1.toNat) ∧
    decodeOperand r .indirectX byte1 byte2 = (2, ['(', '$'] ++ hex byte1.toNat ++ [',', 'X', ')']) ∧
    decodeOperand r .indirectY byte1 byte2 = (2, ['(', '$'] ++ hex byte1.toNat ++ [',', 'Y', ')']) ∧
    decodeOperand r .absolute byte1 byte2 = (3, ['$'] ++ hex (combine byte1 byte2)) ∧
    decodeOperand r .absoluteX byte1 byte2 = (3, ['$'] ++ hex (combine byte1 byte2) ++ [',', 'X']) ∧
    decodeOperand r .absoluteY byte1 byte2 = (3, ['$'] ++ hex (combine byte1 byte2) ++ [',', 'Y']) ∧
    decodeOperand .oneByte .indirect byte1 byte2 = (3, ['(', '$'] ++ hex byte1.toNat ++ [')']) ∧
    decodeOperand .combine .indirect byte1 byte2 = (3, ['(', '$'] ++ hex (combine byte1 byte2) ++ [')']) ∧
    ∀ mode : Mode, (decodeOperand r mode byte1 byte2).1 = mode.len

/-- 00_scope.md R7: `hex` is the shortest lowercase numeral, `hexpad` adds zeros on the left and drops no digit (decision
D13, log entry 16), `ljust` adds spaces on the right and cuts nothing off. -/
def Obligations.HexNumerals : Prop :=
  (∀ v : Nat, hexValue (hex v) = v ∧ hex v ≠ [] ∧ (v ≠ 0 → (hex v).head? ≠ some '0') ∧
    ∀ ch ∈ hex v, ch ∈ ['0', '1', '2', '3', '4', '5', '6', '7', '8', '9', 'a', 'b', 'c', 'd', 'e', 'f']) ∧
  hex 0 = ['0'] ∧
  (∀ v w : Nat, hex v <:+ hexpad v w ∧ (hexpad v w).length = max w (hex v).length ∧
    ∀ ch ∈ (hexpad v w).take (w - (hex v).length), ch = '0') ∧
  (∀ (t : Text) (w : Nat), t <+: ljust t w ∧ (ljust t w).length = max w t.length ∧
    ∀ ch ∈ (ljust t w).drop t.length, ch = ' ')

/-- 42_engine.md R180, R182, R183, R186: how a record is rendered, the rule's own examples under the default parameters,
and what `text` answers; `text` changes nothing. The field widths and marker texts are the spec's decisions D10, D11, D12 and D15 (log
entry 16); that `text` answers the lines so far of an engine that is still decoding is decision D9 (log entry 15). -/
def Obligations.TextOfRecords : Prop :=
  (∀ (cfg : Config) (o : Nat) (bs : List Byte) (m : Mnemonic) (operand : Text),
    render cfg .lead = cfg.markerLead ∧
    render cfg (.trail o) = cfg.markerTrailPrefix ++ hexpad o 4 ∧
    render cfg (.instr o bs m operand) =
      hexpad o 4 ++ [' '] ++
        ljust (List.intercalate [' '] (bs.map (fun x => hexpad x.toNat cfg.byteHexWidth))) cfg.bytesFieldWidth ++ [' '] ++
        mnemonicText m ++ (if operand = [] then [] else [' '] ++ operand)) ∧
  render Config.default (.instr 0x7ffe [0xea] .nop []) =
    ['7', 'f', 'f', 'e', ' ', 'e', 'a', ' ', ' ', ' ', ' ', ' ', ' ', ' ', 'N', 'O', 'P'] ∧
  render Config.default (.instr 0x0010 [0x4c, 0x00, 0x80] .jmp ['$', '8', '0', '0', '0']) =
    ['0', '0', '1', '0', ' ', '4', 'c', ' ', '0', '0', ' ', '8', '0', ' ', 'J', 'M', 'P', ' ', '$', '8', '0', '0', '0'] ∧
  render Config.default .lead = ['*', ' ', '=', ' ', '0', '0', '0', '0'] ∧
  render Config.default (.trail 0x8000) = ['.', 'E', 'N', 'D', ' ', '8', '0', '0', '0'] ∧
  (∀ (cfg : Config) (ls : List Line) (r : Line),
    textOf cfg [] = [] ∧ textOf cfg (ls ++ [r]) = textOf cfg ls ++ (render cfg r ++ cfg.newline)) ∧
  (∀ (s : State) (e : Engine), s.engine = some e →
    perform .text s = .next (reply (.text (textOf s.cfg e.lines)) s))

/-- 42_engine.md R186: every character of the text is printable ASCII or belongs to the line terminator, for marker texts
that are printable. -/
def Obligations.OutputIsAscii : Prop :=
  ∀ (s : State) (e : Engine), s.engine = some e → e.Inv s.cfg →
    (∀ ch ∈ s.cfg.markerLead, printable ch) → (∀ ch ∈ s.cfg.markerTrailPrefix, printable ch) →
    ∀ ch ∈ textOf s.cfg e.lines, printable ch ∨ ch ∈ s.cfg.newline

/-! ### One step of the engine -/

/-- 42_engine.md R174: `exh(c)` in the rule's own form, for every region, and at exhaustion at most two bytes are left. -/
def Obligations.ExhaustionIsRemainingBelowRequired : Prop :=
  ∀ (T : List Descriptor) (prg : Memory) (c : Nat), prg.isRegion →
    (exhaustedAt T prg c = true ↔
      (prg.size ≤ c ∨ ∃ b d, prg.bytes[c]? = some b ∧ find T b = some d ∧ prg.size < c + d.mode.len)) ∧
    (exhaustedAt T prg c = true → prg.size - c ≤ 2)

/-- 42_engine.md R176: one step of a decoding engine is the rule's pseudocode, for every table and every byte. The spec's
decisions in it (log entry 15): one decode or skip in a step (D8), the leading marker before an empty region and before a
skipped first byte (D24), the required length 1 at the end and of an unrecognised byte (D7). -/
def Obligations.StepFollowsPseudocode : Prop :=
  ∀ (s : State) (e : Engine), s.engine = some e → e.est = .decoding → e.prg.isRegion →
    stepEngine s = .next (s.setEngine (e.ruleStep s.cfg))

/-- When the bytes at the cursor decode to an instruction, a step of the machine is the instruction's meaning on the
state with the leading marker put in front where the cursor is at 0 (42_engine.md R176, R182); the instruction's operands
are the bytes after the opcode byte (30_encoding.md R90); the host's `step` request does the same. That the machine's step
with nothing asked for is a step of the engine is the model's choice (log entry 5), and so is the split of a step into the
leading marker and `exec` (log entry 8). -/
def Obligations.StepRunsDecodedInstruction : Prop :=
  ∀ (s : State) (e : Engine) (i : Instr) (rest : List Byte), s.engine = some e → e.est = .decoding → e.prg.isRegion →
    decode s.cfg.table (e.prg.window e.cursor 3) = .instr i rest →
    (s.port.requests = [] → step s = exec i (s.setEngine e.lead)) ∧
    perform .step s = exec i (s.setEngine e.lead) ∧
    i.operands = e.prg.slice (e.cursor + 1) (i.mode.len - 1) ∧
    e.lead = ⟨e.prg, e.cursor, .decoding, if e.cursor = 0 then e.lines ++ [.lead] else e.lines⟩

/-- 47_unrecognized.md R390 with 42_engine.md R176, R182 and R183: a byte that `find` does not recognise is skipped, at
every offset. That a step ends after one skip is decision D8, and that the leading marker stands before a skipped first byte
is decision D24 (log entry 15). -/
def Obligations.SkipAdvancesByOne : Prop :=
  ∀ (s : State) (e : Engine) (b : Byte), s.engine = some e → e.est = .decoding → e.prg.isRegion →
    e.prg.bytes[e.cursor]? = some b → find s.cfg.table b = none →
    stepEngine s = .next (s.setEngine (e.skipped s.cfg.table (if e.cursor = 0 then [.lead] else [])))

/-- 42_engine.md R188 (decision D9, log entry 15): nothing changes in an exhausted engine, whether it is stepped, run or
given an instruction. -/
def Obligations.ExhaustedEngineStays : Prop :=
  ∀ (s : State) (e : Engine), s.engine = some e → e.est = .exhausted →
    stepEngine s = .next s ∧ run s = .next s ∧ ∀ i : Instr, exec i s = .next s

/-! ### The instructions, mode by mode -/

/-- R200 and the rule of each ACCUMULATOR instruction, with 42_engine.md R176: the decode completes, and the next state is the one
given, so everything else is unchanged. Whatever the table is. -/
def Obligations.AccumulatorDecodeCompletes : Prop :=
  ∀ (s : State) (e : Engine), s.engine = some e → e.est = .decoding → e.prg.isRegion →
    e.cursor + 1 ≤ e.prg.size →
    exec .aslAccumulator s = .next (s.setEngine (e.recorded s.cfg.table 1 .asl ['A'])) ∧
    exec .lsrAccumulator s = .next (s.setEngine (e.recorded s.cfg.table 1 .lsr ['A'])) ∧
    exec .rolAccumulator s = .next (s.setEngine (e.recorded s.cfg.table 1 .rol ['A'])) ∧
    exec .rorAccumulator s = .next (s.setEngine (e.recorded s.cfg.table 1 .ror ['A']))

/-- R205 and the rule of each IMPLIED instruction, with 42_engine.md R176: the decode completes, and the next state is the one
given, so everything else is unchanged. Whatever the table is. -/
def Obligations.ImpliedDecodeCompletes : Prop :=
  ∀ (s : State) (e : Engine), s.engine = some e → e.est = .decoding → e.prg.isRegion →
    e.cursor + 1 ≤ e.prg.size →
    exec .brkImplied s = .next (s.setEngine (e.recorded s.cfg.table 1 .brk [])) ∧
    exec .clcImplied s = .next (s.setEngine (e.recorded s.cfg.table 1 .clc [])) ∧
    exec .cldImplied s = .next (s.setEngine (e.recorded s.cfg.table 1 .cld [])) ∧
    exec .cliImplied s = .next (s.setEngine (e.recorded s.cfg.table 1 .cli [])) ∧
    exec .clvImplied s = .next (s.setEngine (e.recorded s.cfg.table 1 .clv [])) ∧
    exec .dexImplied s = .next (s.setEngine (e.recorded s.cfg.table 1 .dex [])) ∧
    exec .deyImplied s = .next (s.setEngine (e.recorded s.cfg.table 1 .dey [])) ∧
    exec .inxImplied s = .next (s.setEngine (e.recorded s.cfg.table 1 .inx [])) ∧
    exec .inyImplied s = .next (s.setEngine (e.recorded s.cfg.table 1 .iny [])) ∧
    exec .nopImplied s = .next (s.setEngine (e.recorded s.cfg.table 1 .nop [])) ∧
    exec .phaImplied s = .next (s.setEngine (e.recorded s.cfg.table 1 .pha [])) ∧
    exec .phpImplied s = .next (s.setEngine (e.recorded s.cfg.table 1 .php [])) ∧
    exec .plaImplied s = .next (s.setEngine (e.recorded s.cfg.table 1 .pla [])) ∧
    exec .plpImplied s = .next (s.setEngine (e.recorded s.cfg.table 1 .plp [])) ∧
    exec .rtiImplied s = .next (s.setEngine (e.recorded s.cfg.table 1 .rti [])) ∧
    exec .rtsImplied s = .next (s.setEngine (e.recorded s.cfg.table 1 .rts [])) ∧
    exec .secImplied s = .next (s.setEngine (e.recorded s.cfg.table 1 .sec [])) ∧
    exec .sedImplied s = .next (s.setEngine (e.recorded s.cfg.table 1 .sed [])) ∧
    exec .seiImplied s = .next (s.setEngine (e.recorded s.cfg.table 1 .sei [])) ∧
    exec .taxImplied s = .next (s.setEngine (e.recorded s.cfg.table 1 .tax [])) ∧
    exec .tayImplied s = .next (s.setEngine (e.recorded s.cfg.table 1 .tay [])) ∧
    exec .tsxImplied s = .next (s.setEngine (e.recorded s.cfg.table 1 .tsx [])) ∧
    exec .txaImplied s = .next (s.setEngine (e.recorded s.cfg.table 1 .txa [])) ∧
    exec .txsImplied s = .next (s.setEngine (e.recorded s.cfg.table 1 .txs [])) ∧
    exec .tyaImplied s = .next (s.setEngine (e.recorded s.cfg.table 1 .tya []))

/-- R240 and the rule of each IMMEDIATE instruction, with 42_engine.md R176: the decode completes, and the next state is the one
given, so everything else is unchanged. Whatever the table is. -/
def Obligations.ImmediateDecodeCompletes : Prop :=
  ∀ (s : State) (e : Engine) (byte1 : Byte), s.engine = some e → e.est = .decoding → e.prg.isRegion →
    e.cursor + 2 ≤ e.prg.size →
    exec (.adcImmediate byte1) s = .next (s.setEngine (e.recorded s.cfg.table 2 .adc
      (['#', '$'] ++ hex byte1.toNat))) ∧
    exec (.andImmediate byte1) s = .next (s.setEngine (e.recorded s.cfg.table 2 .and
      (['#', '$'] ++ hex byte1.toNat))) ∧
    exec (.cmpImmediate byte1) s = .next (s.setEngine (e.recorded s.cfg.table 2 .cmp
      (['#', '$'] ++ hex byte1.toNat))) ∧
    exec (.cpxImmediate byte1) s = .next (s.setEngine (e.recorded s.cfg.table 2 .cpx
      (['#', '$'] ++ hex byte1.toNat))) ∧
    exec (.cpyImmediate byte1) s = .next (s.setEngine (e.recorded s.cfg.table 2 .cpy
      (['#', '$'] ++ hex byte1.toNat))) ∧
    exec (.eorImmediate byte1) s = .next (s.setEngine (e.recorded s.cfg.table 2 .eor
      (['#', '$'] ++ hex byte1.toNat))) ∧
    exec (.ldaImmediate byte1) s = .next (s.setEngine (e.recorded s.cfg.table 2 .lda
      (['#', '$'] ++ hex byte1.toNat))) ∧
    exec (.ldxImmediate byte1) s = .next (s.setEngine (e.recorded s.cfg.table 2 .ldx
      (['#', '$'] ++ hex byte1.toNat))) ∧
    exec (.ldyImmediate byte1) s = .next (s.setEngine (e.recorded s.cfg.table 2 .ldy
      (['#', '$'] ++ hex byte1.toNat))) ∧
    exec (.oraImmediate byte1) s = .next (s.setEngine (e.recorded s.cfg.table 2 .ora
      (['#', '$'] ++ hex byte1.toNat))) ∧
    exec (.sbcImmediate byte1) s = .next (s.setEngine (e.recorded s.cfg.table 2 .sbc
      (['#', '$'] ++ hex byte1.toNat)))

/-- R252 and the rule of each ZEROPAGE instruction, with 42_engine.md R176: the decode completes, and the next state is the one
given, so everything else is unchanged. Whatever the table is. -/
def Obligations.ZeropageDecodeCompletes : Prop :=
  ∀ (s : State) (e : Engine) (byte1 : Byte), s.engine = some e → e.est = .decoding → e.prg.isRegion →
    e.cursor + 2 ≤ e.prg.size →
    exec (.adcZeropage byte1) s = .next (s.setEngine (e.recorded s.cfg.table 2 .adc (['$'] ++ hex byte1.toNat))) ∧
    exec (.andZeropage byte1) s = .next (s.setEngine (e.recorded s.cfg.table 2 .and (['$'] ++ hex byte1.toNat))) ∧
    exec (.aslZeropage byte1) s = .next (s.setEngine (e.recorded s.cfg.table 2 .asl (['$'] ++ hex byte1.toNat))) ∧
    exec (.bitZeropage byte1) s = .next (s.setEngine (e.recorded s.cfg.table 2 .bit (['$'] ++ hex byte1.toNat))) ∧
    exec (.cmpZeropage byte1) s = .next (s.setEngine (e.recorded s.cfg.table 2 .cmp (['$'] ++ hex byte1.toNat))) ∧
    exec (.cpxZeropage byte1) s = .next (s.setEngine (e.recorded s.cfg.table 2 .cpx (['$'] ++ hex byte1.toNat))) ∧
    exec (.cpyZeropage byte1) s = .next (s.setEngine (e.recorded s.cfg.table 2 .cpy (['$'] ++ hex byte1.toNat))) ∧
    exec (.decZeropage byte1) s = .next (s.setEngine (e.recorded s.cfg.table 2 .dec (['$'] ++ hex byte1.toNat))) ∧
    exec (.eorZeropage byte1) s = .next (s.setEngine (e.recorded s.cfg.table 2 .eor (['$'] ++ hex byte1.toNat))) ∧
    exec (.incZeropage byte1) s = .next (s.setEngine (e.recorded s.cfg.table 2 .inc (['$'] ++ hex byte1.toNat))) ∧
    exec (.ldaZeropage byte1) s = .next (s.setEngine (e.recorded s.cfg.table 2 .lda (['$'] ++ hex byte1.toNat))) ∧
    exec (.ldxZeropage byte1) s = .next (s.setEngine (e.recorded s.cfg.table 2 .ldx (['$'] ++ hex byte1.toNat))) ∧
    exec (.ldyZeropage byte1) s = .next (s.setEngine (e.recorded s.cfg.table 2 .ldy (['$'] ++ hex byte1.toNat))) ∧
    exec (.lsrZeropage byte1) s = .next (s.setEngine (e.recorded s.cfg.table 2 .lsr (['$'] ++ hex byte1.toNat))) ∧
    exec (.oraZeropage byte1) s = .next (s.setEngine (e.recorded s.cfg.table 2 .ora (['$'] ++ hex byte1.toNat))) ∧
    exec (.rolZeropage byte1) s = .next (s.setEngine (e.recorded s.cfg.table 2 .rol (['$'] ++ hex byte1.toNat))) ∧
    exec (.rorZeropage byte1) s = .next (s.setEngine (e.recorded s.cfg.table 2 .ror (['$'] ++ hex byte1.toNat))) ∧
    exec (.sbcZeropage byte1) s = .next (s.setEngine (e.recorded s.cfg.table 2 .sbc (['$'] ++ hex byte1.toNat))) ∧
    exec (.staZeropage byte1) s = .next (s.setEngine (e.recorded s.cfg.table 2 .sta (['$'] ++ hex byte1.toNat))) ∧
    exec (.stxZeropage byte1) s = .next (s.setEngine (e.recorded s.cfg.table 2 .stx (['$'] ++ hex byte1.toNat))) ∧
    exec (.styZeropage byte1) s = .next (s.setEngine (e.recorded s.cfg.table 2 .sty (['$'] ++ hex byte1.toNat)))

/-- R274 and the rule of each ZEROPAGE_X instruction, with 42_engine.md R176: the decode completes, and the next state is the one
given, so everything else is unchanged. Whatever the table is. -/
def Obligations.ZeropageXDecodeCompletes : Prop :=
  ∀ (s : State) (e : Engine) (byte1 : Byte), s.engine = some e → e.est = .decoding → e.prg.isRegion →
    e.cursor + 2 ≤ e.prg.size →
    exec (.adcZeropageX byte1) s = .next (s.setEngine (e.recorded s.cfg.table 2 .adc
      (['$'] ++ hex byte1.toNat ++ [',', 'X']))) ∧
    exec (.andZeropageX byte1) s = .next (s.setEngine (e.recorded s.cfg.table 2 .and
      (['$'] ++ hex byte1.toNat ++ [',', 'X']))) ∧
    exec (.aslZeropageX byte1) s = .next (s.setEngine (e.recorded s.cfg.table 2 .asl
      (['$'] ++ hex byte1.toNat ++ [',', 'X']))) ∧
    exec (.cmpZeropageX byte1) s = .next (s.setEngine (e.recorded s.cfg.table 2 .cmp
      (['$'] ++ hex byte1.toNat ++ [',', 'X']))) ∧
    exec (.decZeropageX byte1) s = .next (s.setEngine (e.recorded s.cfg.table 2 .dec
      (['$'] ++ hex byte1.toNat ++ [',', 'X']))) ∧
    exec (.eorZeropageX byte1) s = .next (s.setEngine (e.recorded s.cfg.table 2 .eor
      (['$'] ++ hex byte1.toNat ++ [',', 'X']))) ∧
    exec (.incZeropageX byte1) s = .next (s.setEngine (e.recorded s.cfg.table 2 .inc
      (['$'] ++ hex byte1.toNat ++ [',', 'X']))) ∧
    exec (.ldaZeropageX byte1) s = .next (s.setEngine (e.recorded s.cfg.table 2 .lda
      (['$'] ++ hex byte1.toNat ++ [',', 'X']))) ∧
    exec (.ldyZeropageX byte1) s = .next (s.setEngine (e.recorded s.cfg.table 2 .ldy
      (['$'] ++ hex byte1.toNat ++ [',', 'X']))) ∧
    exec (.lsrZeropageX byte1) s = .next (s.setEngine (e.recorded s.cfg.table 2 .lsr
      (['$'] ++ hex byte1.toNat ++ [',', 'X']))) ∧
    exec (.oraZeropageX byte1) s = .next (s.setEngine (e.recorded s.cfg.table 2 .ora
      (['$'] ++ hex byte1.toNat ++ [',', 'X']))) ∧
    exec (.rolZeropageX byte1) s = .next (s.setEngine (e.recorded s.cfg.table 2 .rol
      (['$'] ++ hex byte1.toNat ++ [',', 'X']))) ∧
    exec (.rorZeropageX byte1) s = .next (s.setEngine (e.recorded s.cfg.table 2 .ror
      (['$'] ++ hex byte1.toNat ++ [',', 'X']))) ∧
    exec (.sbcZeropageX byte1) s = .next (s.setEngine (e.recorded s.cfg.table 2 .sbc
      (['$'] ++ hex byte1.toNat ++ [',', 'X']))) ∧
    exec (.staZeropageX byte1) s = .next (s.setEngine (e.recorded s.cfg.table 2 .sta
      (['$'] ++ hex byte1.toNat ++ [',', 'X']))) ∧
    exec (.styZeropageX byte1) s = .next (s.setEngine (e.recorded s.cfg.table 2 .sty
      (['$'] ++ hex byte1.toNat ++ [',', 'X'])))

/-- R291 and the rule of each ZEROPAGE_Y instruction, with 42_engine.md R176: the decode completes, and the next state is the one
given, so everything else is unchanged. Whatever the table is. -/
def Obligations.ZeropageYDecodeCompletes : Prop :=
  ∀ (s : State) (e : Engine) (byte1 : Byte), s.engine = some e → e.est = .decoding → e.prg.isRegion →
    e.cursor + 2 ≤ e.prg.size →
    exec (.ldxZeropageY byte1) s = .next (s.setEngine (e.recorded s.cfg.table 2 .ldx
      (['$'] ++ hex byte1.toNat ++ [',', 'Y']))) ∧
    exec (.stxZeropageY byte1) s = .next (s.setEngine (e.recorded s.cfg.table 2 .stx
      (['$'] ++ hex byte1.toNat ++ [',', 'Y'])))

/-- R294 and the rule of each RELATIVE instruction, with 42_engine.md R176: the decode completes, and the next state is the one
given, so everything else is unchanged. Whatever the table is. -/
def Obligations.RelativeDecodeCompletes : Prop :=
  ∀ (s : State) (e : Engine) (byte1 : Byte), s.engine = some e → e.est = .decoding → e.prg.isRegion →
    e.cursor + 2 ≤ e.prg.size →
    exec (.bccRelative byte1) s = .next (s.setEngine (e.recorded s.cfg.table 2 .bcc (['$'] ++ hex byte1.toNat))) ∧
    exec (.bcsRelative byte1) s = .next (s.setEngine (e.recorded s.cfg.table 2 .bcs (['$'] ++ hex byte1.toNat))) ∧
    exec (.beqRelative byte1) s = .next (s.setEngine (e.recorded s.cfg.table 2 .beq (['$'] ++ hex byte1.toNat))) ∧
    exec (.bmiRelative byte1) s = .next (s.setEngine (e.recorded s.cfg.table 2 .bmi (['$'] ++ hex byte1.toNat))) ∧
    exec (.bneRelative byte1) s = .next (s.setEngine (e.recorded s.cfg.table 2 .bne (['$'] ++ hex byte1.toNat))) ∧
    exec (.bplRelative byte1) s = .next (s.setEngine (e.recorded s.cfg.table 2 .bpl (['$'] ++ hex byte1.toNat))) ∧
    exec (.bvcRelative byte1) s = .next (s.setEngine (e.recorded s.cfg.table 2 .bvc (['$'] ++ hex byte1.toNat))) ∧
    exec (.bvsRelative byte1) s = .next (s.setEngine (e.recorded s.cfg.table 2 .bvs (['$'] ++ hex byte1.toNat)))

/-- R303 and the rule of each INDIRECT_X instruction, with 42_engine.md R176: the decode completes, and the next state is the one
given, so everything else is unchanged. Whatever the table is. -/
def Obligations.IndirectXDecodeCompletes : Prop :=
  ∀ (s : State) (e : Engine) (byte1 : Byte), s.engine = some e → e.est = .decoding → e.prg.isRegion →
    e.cursor + 2 ≤ e.prg.size →
    exec (.adcIndirectX byte1) s = .next (s.setEngine (e.recorded s.cfg.table 2 .adc
      (['(', '$'] ++ hex byte1.toNat ++ [',', 'X', ')']))) ∧
    exec (.andIndirectX byte1) s = .next (s.setEngine (e.recorded s.cfg.table 2 .and
      (['(', '$'] ++ hex byte1.toNat ++ [',', 'X', ')']))) ∧
    exec (.cmpIndirectX byte1) s = .next (s.setEngine (e.recorded s.cfg.table 2 .cmp
      (['(', '$'] ++ hex byte1.toNat ++ [',', 'X', ')']))) ∧
    exec (.eorIndirectX byte1) s = .next (s.setEngine (e.recorded s.cfg.table 2 .eor
      (['(', '$'] ++ hex byte1.toNat ++ [',', 'X', ')']))) ∧
    exec (.ldaIndirectX byte1) s = .next (s.setEngine (e.recorded s.cfg.table 2 .lda
      (['(', '$'] ++ hex byte1.toNat ++ [',', 'X', ')']))) ∧
    exec (.oraIndirectX byte1) s = .next (s.setEngine (e.recorded s.cfg.table 2 .ora
      (['(', '$'] ++ hex byte1.toNat ++ [',', 'X', ')']))) ∧
    exec (.sbcIndirectX byte1) s = .next (s.setEngine (e.recorded s.cfg.table 2 .sbc
      (['(', '$'] ++ hex byte1.toNat ++ [',', 'X', ')']))) ∧
    exec (.staIndirectX byte1) s = .next (s.setEngine (e.recorded s.cfg.table 2 .sta
      (['(', '$'] ++ hex byte1.toNat ++ [',', 'X', ')'])))

/-- R312 and the rule of each INDIRECT_Y instruction, with 42_engine.md R176: the decode completes, and the next state is the one
given, so everything else is unchanged. Whatever the table is. -/
def Obligations.IndirectYDecodeCompletes : Prop :=
  ∀ (s : State) (e : Engine) (byte1 : Byte), s.engine = some e → e.est = .decoding → e.prg.isRegion →
    e.cursor + 2 ≤ e.prg.size →
    exec (.adcIndirectY byte1) s = .next (s.setEngine (e.recorded s.cfg.table 2 .adc
      (['(', '$'] ++ hex byte1.toNat ++ [',', 'Y', ')']))) ∧
    exec (.andIndirectY byte1) s = .next (s.setEngine (e.recorded s.cfg.table 2 .and
      (['(', '$'] ++ hex byte1.toNat ++ [',', 'Y', ')']))) ∧
    exec (.cmpIndirectY byte1) s = .next (s.setEngine (e.recorded s.cfg.table 2 .cmp
      (['(', '$'] ++ hex byte1.toNat ++ [',', 'Y', ')']))) ∧
    exec (.eorIndirectY byte1) s = .next (s.setEngine (e.recorded s.cfg.table 2 .eor
      (['(', '$'] ++ hex byte1.toNat ++ [',', 'Y', ')']))) ∧
    exec (.ldaIndirectY byte1) s = .next (s.setEngine (e.recorded s.cfg.table 2 .lda
      (['(', '$'] ++ hex byte1.toNat ++ [',', 'Y', ')']))) ∧
    exec (.oraIndirectY byte1) s = .next (s.setEngine (e.recorded s.cfg.table 2 .ora
      (['(', '$'] ++ hex byte1.toNat ++ [',', 'Y', ')']))) ∧
    exec (.sbcIndirectY byte1) s = .next (s.setEngine (e.recorded s.cfg.table 2 .sbc
      (['(', '$'] ++ hex byte1.toNat ++ [',', 'Y', ')']))) ∧
    exec (.staIndirectY byte1) s = .next (s.setEngine (e.recorded s.cfg.table 2 .sta
      (['(', '$'] ++ hex byte1.toNat ++ [',', 'Y', ')'])))

/-- R330 and the rule of each ABSOLUTE instruction, with 42_engine.md R176: the decode completes, and the next state is the one
given, so everything else is unchanged. Whatever the table is. -/
def Obligations.AbsoluteDecodeCompletes : Prop :=
  ∀ (s : State) (e : Engine) (byte1 byte2 : Byte), s.engine = some e → e.est = .decoding → e.prg.isRegion →
    e.cursor + 3 ≤ e.prg.size →
    exec (.adcAbsolute byte1 byte2) s = .next (s.setEngine (e.recorded s.cfg.table 3 .adc
      (['$'] ++ hex (byte1.toNat + 256 * byte2.toNat)))) ∧
    exec (.andAbsolute byte1 byte2) s = .next (s.setEngine (e.recorded s.cfg.table 3 .and
      (['$'] ++ hex (byte1.toNat + 256 * byte2.toNat)))) ∧
    exec (.aslAbsolute byte1 byte2) s = .next (s.setEngine (e.recorded s.cfg.table 3 .asl
      (['$'] ++ hex (byte1.toNat + 256 * byte2.toNat)))) ∧
    exec (.bitAbsolute byte1 byte2) s = .next (s.setEngine (e.recorded s.cfg.table 3 .bit
      (['$'] ++ hex (byte1.toNat + 256 * byte2.toNat)))) ∧
    exec (.cmpAbsolute byte1 byte2) s = .next (s.setEngine (e.recorded s.cfg.table 3 .cmp
      (['$'] ++ hex (byte1.toNat + 256 * byte2.toNat)))) ∧
    exec (.cpxAbsolute byte1 byte2) s = .next (s.setEngine (e.recorded s.cfg.table 3 .cpx
      (['$'] ++ hex (byte1.toNat + 256 * byte2.toNat)))) ∧
    exec (.cpyAbsolute byte1 byte2) s = .next (s.setEngine (e.recorded s.cfg.table 3 .cpy
      (['$'] ++ hex (byte1.toNat + 256 * byte2.toNat)))) ∧
    exec (.decAbsolute byte1 byte2) s = .next (s.setEngine (e.recorded s.cfg.table 3 .dec
      (['$'] ++ hex (byte1.toNat + 256 * byte2.toNat)))) ∧
    exec (.eorAbsolute byte1 byte2) s = .next (s.setEngine (e.recorded s.cfg.table 3 .eor
      (['$'] ++ hex (byte1.toNat + 256 * byte2.toNat)))) ∧
    exec (.incAbsolute byte1 byte2) s = .next (s.setEngine (e.recorded s.cfg.table 3 .inc
      (['$'] ++ hex (byte1.toNat + 256 * byte2.toNat)))) ∧
    exec (.jmpAbsolute byte1 byte2) s = .next (s.setEngine (e.recorded s.cfg.table 3 .jmp
      (['$'] ++ hex (byte1.toNat + 256 * byte2.toNat)))) ∧
    exec (.jsrAbsolute byte1 byte2) s = .next (s.setEngine (e.recorded s.cfg.table 3 .jsr
      (['$'] ++ hex (byte1.toNat + 256 * byte2.toNat)))) ∧
    exec (.ldaAbsolute byte1 byte2) s = .next (s.setEngine (e.recorded s.cfg.table 3 .lda
      (['$'] ++ hex (byte1.toNat + 256 * byte2.toNat)))) ∧
    exec (.ldxAbsolute byte1 byte2) s = .next (s.setEngine (e.recorded s.cfg.table 3 .ldx
      (['$'] ++ hex (byte1.toNat + 256 * byte2.toNat)))) ∧
    exec (.ldyAbsolute byte1 byte2) s = .next (s.setEngine (e.recorded s.cfg.table 3 .ldy
      (['$'] ++ hex (byte1.toNat + 256 * byte2.toNat)))) ∧
    exec (.lsrAbsolute byte1 byte2) s = .next (s.setEngine (e.recorded s.cfg.table 3 .lsr
      (['$'] ++ hex (byte1.toNat + 256 * byte2.toNat)))) ∧
    exec (.oraAbsolute byte1 byte2) s = .next (s.setEngine (e.recorded s.cfg.table 3 .ora
      (['$'] ++ hex (byte1.toNat + 256 * byte2.toNat)))) ∧
    exec (.rolAbsolute byte1 byte2) s = .next (s.setEngine (e.recorded s.cfg.table 3 .rol
      (['$'] ++ hex (byte1.toNat + 256 * byte2.toNat)))) ∧
    exec (.rorAbsolute byte1 byte2) s = .next (s.setEngine (e.recorded s.cfg.table 3 .ror
      (['$'] ++ hex (byte1.toNat + 256 * byte2.toNat)))) ∧
    exec (.sbcAbsolute byte1 byte2) s = .next (s.setEngine (e.recorded s.cfg.table 3 .sbc
      (['$'] ++ hex (byte1.toNat + 256 * byte2.toNat)))) ∧
    exec (.staAbsolute byte1 byte2) s = .next (s.setEngine (e.recorded s.cfg.table 3 .sta
      (['$'] ++ hex (byte1.toNat + 256 * byte2.toNat)))) ∧
    exec (.stxAbsolute byte1 byte2) s = .next (s.setEngine (e.recorded s.cfg.table 3 .stx
      (['$'] ++ hex (byte1.toNat + 256 * byte2.toNat)))) ∧
    exec (.styAbsolute byte1 byte2) s = .next (s.setEngine (e.recorded s.cfg.table 3 .sty
      (['$'] ++ hex (byte1.toNat + 256 * byte2.toNat))))

/-- R354 and the rule of each ABSOLUTE_X instruction, with 42_engine.md R176: the decode completes, and the next state is the one
given, so everything else is unchanged. Whatever the table is. -/
def Obligations.AbsoluteXDecodeCompletes : Prop :=
  ∀ (s : State) (e : Engine) (byte1 byte2 : Byte), s.engine = some e → e.est = .decoding → e.prg.isRegion →
    e.cursor + 3 ≤ e.prg.size →
    exec (.adcAbsoluteX byte1 byte2) s = .next (s.setEngine (e.recorded s.cfg.table 3 .adc
      (['$'] ++ hex (byte1.toNat + 256 * byte2.toNat) ++ [',', 'X']))) ∧
    exec (.andAbsoluteX byte1 byte2) s = .next (s.setEngine (e.recorded s.cfg.table 3 .and
      (['$'] ++ hex (byte1.toNat + 256 * byte2.toNat) ++ [',', 'X']))) ∧
    exec (.aslAbsoluteX byte1 byte2) s = .next (s.setEngine (e.recorded s.cfg.table 3 .asl
      (['$'] ++ hex (byte1.toNat + 256 * byte2.toNat) ++ [',', 'X']))) ∧
    exec (.cmpAbsoluteX byte1 byte2) s = .next (s.setEngine (e.recorded s.cfg.table 3 .cmp
      (['$'] ++ hex (byte1.toNat + 256 * byte2.toNat) ++ [',', 'X']))) ∧
    exec (.decAbsoluteX byte1 byte2) s = .next (s.setEngine (e.recorded s.cfg.table 3 .dec
      (['$'] ++ hex (byte1.toNat + 256 * byte2.toNat) ++ [',', 'X']))) ∧
    exec (.eorAbsoluteX byte1 byte2) s = .next (s.setEngine (e.recorded s.cfg.table 3 .eor
      (['$'] ++ hex (byte1.toNat + 256 * byte2.toNat) ++ [',', 'X']))) ∧
    exec (.incAbsoluteX byte1 byte2) s = .next (s.setEngine (e.recorded s.cfg.table 3 .inc
      (['$'] ++ hex (byte1.toNat + 256 * byte2.toNat) ++ [',', 'X']))) ∧
    exec (.ldaAbsoluteX byte1 byte2) s = .next (s.setEngine (e.recorded s.cfg.table 3 .lda
      (['$'] ++ hex (byte1.toNat + 256 * byte2.toNat) ++ [',', 'X']))) ∧
    exec (.ldyAbsoluteX byte1 byte2) s = .next (s.setEngine (e.recorded s.cfg.table 3 .ldy
      (['$'] ++ hex (byte1.toNat + 256 * byte2.toNat) ++ [',', 'X']))) ∧
    exec (.lsrAbsoluteX byte1 byte2) s = .next (s.setEngine (e.recorded s.cfg.table 3 .lsr
      (['$'] ++ hex (byte1.toNat + 256 * byte2.toNat) ++ [',', 'X']))) ∧
    exec (.oraAbsoluteX byte1 byte2) s = .next (s.setEngine (e.recorded s.cfg.table 3 .ora
      (['$'] ++ hex (byte1.toNat + 256 * byte2.toNat) ++ [',', 'X']))) ∧
    exec (.rolAbsoluteX byte1 byte2) s = .next (s.setEngine (e.recorded s.cfg.table 3 .rol
      (['$'] ++ hex (byte1.toNat + 256 * byte2.toNat) ++ [',', 'X']))) ∧
    exec (.rorAbsoluteX byte1 byte2) s = .next (s.setEngine (e.recorded s.cfg.table 3 .ror
      (['$'] ++ hex (byte1.toNat + 256 * byte2.toNat) ++ [',', 'X']))) ∧
    exec (.sbcAbsoluteX byte1 byte2) s = .next (s.setEngine (e.recorded s.cfg.table 3 .sbc
      (['$'] ++ hex (byte1.toNat + 256 * byte2.toNat) ++ [',', 'X']))) ∧
    exec (.staAbsoluteX byte1 byte2) s = .next (s.setEngine (e.recorded s.cfg.table 3 .sta
      (['$'] ++ hex (byte1.toNat + 256 * byte2.toNat) ++ [',', 'X'])))

/-- R370 and the rule of each ABSOLUTE_Y instruction, with 42_engine.md R176: the decode completes, and the next state is the one
given, so everything else is unchanged. Whatever the table is. -/
def Obligations.AbsoluteYDecodeCompletes : Prop :=
  ∀ (s : State) (e : Engine) (byte1 byte2 : Byte), s.engine = some e → e.est = .decoding → e.prg.isRegion →
    e.cursor + 3 ≤ e.prg.size →
    exec (.adcAbsoluteY byte1 byte2) s = .next (s.setEngine (e.recorded s.cfg.table 3 .adc
      (['$'] ++ hex (byte1.toNat + 256 * byte2.toNat) ++ [',', 'Y']))) ∧
    exec (.andAbsoluteY byte1 byte2) s = .next (s.setEngine (e.recorded s.cfg.table 3 .and
      (['$'] ++ hex (byte1.toNat + 256 * byte2.toNat) ++ [',', 'Y']))) ∧
    exec (.cmpAbsoluteY byte1 byte2) s = .next (s.setEngine (e.recorded s.cfg.table 3 .cmp
      (['$'] ++ hex (byte1.toNat + 256 * byte2.toNat) ++ [',', 'Y']))) ∧
    exec (.eorAbsoluteY byte1 byte2) s = .next (s.setEngine (e.recorded s.cfg.table 3 .eor
      (['$'] ++ hex (byte1.toNat + 256 * byte2.toNat) ++ [',', 'Y']))) ∧
    exec (.ldaAbsoluteY byte1 byte2) s = .next (s.setEngine (e.recorded s.cfg.table 3 .lda
      (['$'] ++ hex (byte1.toNat + 256 * byte2.toNat) ++ [',', 'Y']))) ∧
    exec (.ldxAbsoluteY byte1 byte2) s = .next (s.setEngine (e.recorded s.cfg.table 3 .ldx
      (['$'] ++ hex (byte1.toNat + 256 * byte2.toNat) ++ [',', 'Y']))) ∧
    exec (.oraAbsoluteY byte1 byte2) s = .next (s.setEngine (e.recorded s.cfg.table 3 .ora
      (['$'] ++ hex (byte1.toNat + 256 * byte2.toNat) ++ [',', 'Y']))) ∧
    exec (.sbcAbsoluteY byte1 byte2) s = .next (s.setEngine (e.recorded s.cfg.table 3 .sbc
      (['$'] ++ hex (byte1.toNat + 256 * byte2.toNat) ++ [',', 'Y']))) ∧
    exec (.staAbsoluteY byte1 byte2) s = .next (s.setEngine (e.recorded s.cfg.table 3 .sta
      (['$'] ++ hex (byte1.toNat + 256 * byte2.toNat) ++ [',', 'Y'])))

/-- R380 and the rule of each INDIRECT instruction, with 42_engine.md R176: the decode completes, and the next state is the one
given, so everything else is unchanged. Whatever the table is. -/
def Obligations.IndirectDecodeCompletes : Prop :=
  ∀ (s : State) (e : Engine) (byte1 byte2 : Byte), s.engine = some e → e.est = .decoding → e.prg.isRegion →
    e.cursor + 3 ≤ e.prg.size →
    exec (.jmpIndirect byte1 byte2) s = .next (s.setEngine (e.recorded s.cfg.table 3 .jmp
      (match s.cfg.indirectRender with
        | .oneByte => ['(', '$'] ++ hex byte1.toNat ++ [')']
        | .combine => ['(', '$'] ++ hex (byte1.toNat + 256 * byte2.toNat) ++ [')'])))

/-- 42_engine.md R176 for every instruction at once: the record carries the instruction's own mnemonic and its mode's
operand text, and the cursor moves on by its mode's length. -/
def Obligations.EveryInstructionCompletes : Prop :=
  ∀ (i : Instr) (s : State) (e : Engine), s.engine = some e → e.est = .decoding → e.prg.isRegion →
    e.cursor + i.mode.len ≤ e.prg.size →
    exec i s = .next (s.setEngine (e.recorded s.cfg.table i.mode.len i.mnemonic
      (operandText s.cfg.indirectRender i.mode (i.operands.getD 0 0) (i.operands.getD 1 0))))

/-- 42_engine.md R174 seen from an instruction: where fewer bytes remain than its length it is not decoded, and the engine
is exhausted at the same cursor. A step never applies `exec` there, since the exhaustion check stands before it; what a
meaning applied by itself does is the model's choice (log entry 8). -/
def Obligations.TruncatedInstructionExhausts : Prop :=
  ∀ (i : Instr) (s : State) (e : Engine), s.engine = some e → e.est = .decoding →
    e.prg.size < e.cursor + i.mode.len →
    exec i s = .next (s.setEngine ⟨e.prg, e.cursor, .exhausted, e.lines ++ [.trail e.cursor]⟩)

/-- What an instruction leaves unchanged (10_state.md R45): all but `cursor`, `lines` and `EST`; no byte of any region
changes, the records stay in front, and the cursor moves by the instruction's length or not at all. That an exhausted
engine is unchanged is the spec's decision D9 (42_engine.md R188; log entry 15). -/
def Obligations.InstructionFrame : Prop :=
  ∀ (i : Instr) (s t : State), exec i s = .next t →
    t.cfg = s.cfg ∧ t.rom = s.rom ∧ t.port = s.port ∧
    ∃ e e', s.engine = some e ∧ t.engine = some e' ∧ (∀ a, e'.prg.read a = e.prg.read a) ∧ e'.prg = e.prg ∧
      e.lines <+: e'.lines ∧ (e'.cursor = e.cursor ∨ e'.cursor = e.cursor + i.mode.len) ∧
      (e.est = .exhausted → e' = e)

/-- 42_engine.md R193: the mnemonic and the operand bytes do not move the cursor. Two instructions of one mode, a jump or a
branch among them, leave the same cursor, the same `EST` and as many records. -/
def Obligations.CursorIgnoresOperands : Prop :=
  ∀ (i j : Instr) (s t : State), i.mode = j.mode → exec i s = .next t →
    ∃ (t' : State) (e e' : Engine), exec j s = .next t' ∧ t.engine = some e ∧ t'.engine = some e' ∧
      e'.cursor = e.cursor ∧ e'.est = e.est ∧ e'.prg = e.prg ∧ e'.lines.length = e.lines.length

/-! ### The container -/

/-- 60_exceptions.md R402, R405, R406, R407: the fatal errors of `load` in their order, the state each leaves and the
answer to the caller. `t`, `p` and `g` are the lengths the file's header declares. The signature check (D16), the order of
the checks (D17, R411) and the one check of the body (D28) are the spec's decisions (log entry 17); that the sub-reason is
answered and kept nowhere is log entry 12's reading of R408. -/
def Obligations.LoadFailures : Prop :=
  ∀ s : State, s.rom = .empty → s.engine = none →
    perform (.load .failure) s = .next (reply (.loadError .ioError) ⟨s.cfg, .failedIo, none, s.port⟩) ∧
    ∀ f : List Byte,
      let t := if (f.getD 6 0).getLsbD 2 then 512 else 0
      let p := (f.getD 4 0).toNat * 16384
      let g := (f.getD 5 0).toNat * 8192
      let failed : State := ⟨s.cfg, .failedFormat, none, s.port⟩
      (f.length < 16 →
        perform (.load (.bytes f)) s = .next (reply (.loadError (.formatError .shortHeader)) failed)) ∧
      (16 ≤ f.length → s.cfg.checkMagic = true → f.take 4 ≠ [0x4e, 0x45, 0x53, 0x1a] →
        perform (.load (.bytes f)) s = .next (reply (.loadError (.formatError .badMagic)) failed)) ∧
      (16 ≤ f.length → (s.cfg.checkMagic = true → f.take 4 = [0x4e, 0x45, 0x53, 0x1a]) → f.length < 16 + t + p + g →
        perform (.load (.bytes f)) s = .next (reply (.loadError (.formatError .shortBody)) failed))

/-- 40_rom_container.md R128, R130, R132, R134, R136: a file that passes the checks is loaded, and the regions are its
consecutive slices. That bytes after them are ignored is decision D18 (R134), that the signature is checked is decision D16
(log entry 17). -/
def Obligations.LoadSlicesTheFile : Prop :=
  ∀ (s : State) (f : List Byte), s.rom = .empty → 16 ≤ f.length →
    (s.cfg.checkMagic = true → f.take 4 = [0x4e, 0x45, 0x53, 0x1a]) →
    let t := if (f.getD 6 0).getLsbD 2 then 512 else 0
    let p := (f.getD 4 0).toNat * 16384
    let g := (f.getD 5 0).toNat * 8192
    16 + t + p + g ≤ f.length →
    ∃ c : Container, perform (.load (.bytes f)) s = .next (reply .loaded ⟨s.cfg, .loaded c, s.engine, s.port⟩) ∧
      c.hdr = Header.ofBytes (f.getD 4 0) (f.getD 5 0) (f.getD 6 0) (f.getD 7 0) (f.getD 8 0) (f.getD 9 0) ∧
      c.trn.bytes = (f.drop 16).take t ∧
      c.prg.bytes = (f.drop (16 + t)).take p ∧
      c.chr.bytes = (f.drop (16 + t + p)).take g ∧
      c.trn.isRegion ∧ c.prg.isRegion ∧ c.chr.isRegion

/-- 10_state.md R39 and 40_rom_container.md R145 for every file on which `load` succeeds: the lengths of the buffers, and
no byte between the regions dropped or read twice. -/
def Obligations.RegionLengths : Prop :=
  ∀ (s s' : State) (f : List Byte) (c : Container), s.rom = .empty → perform (.load (.bytes f)) s = .next s' →
    s'.rom = .loaded c →
    c.trn.size + c.prg.size + c.chr.size + 16 ≤ f.length ∧
    c.trn.size = (if c.hdr.hasTrainer = 1#1 then 512 else 0) ∧
    c.prg.size = c.hdr.programSizeBytes ∧ c.chr.size = c.hdr.graphicsSizeBytes ∧
    16384 ∣ c.prg.size ∧ c.prg.size ≤ 4177920 ∧ 8192 ∣ c.chr.size ∧ c.chr.size ≤ 2088960 ∧
    f.take 16 ++ c.trn.bytes ++ c.prg.bytes ++ c.chr.bytes = f.take (16 + c.trn.size + c.prg.size + c.chr.size)

/-- 10_state.md R24 to R37 as arithmetic on the six header bytes, and the fields are read-only: no step but a reset
changes a loaded container. Bit 3 of R31's pair is the more significant (decision D34), and R36's 0 banks are 0 bytes
(decision D29); those two clauses are the spec's decisions (log entry 17). R33's mapper number is stated by
`Obligations.MapperNumber`. -/
def Obligations.HeaderFields : Prop :=
  (∀ f4 f5 f6 f7 f8 f9 : Byte,
    let h := Header.ofBytes f4 f5 f6 f7 f8 f9
    h.mirroring.toNat = f6.toNat % 2 ∧
    h.hasPersistentRam.toNat = f6.toNat / 2 % 2 ∧
    h.hasTrainer.toNat = f6.toNat / 4 % 2 ∧
    h.fourScreen.toNat = f6.toNat / 8 % 2 ∧
    h.mapperLowNibble.toNat = f6.toNat / 16 ∧
    h.vsUnisystem.toNat = f7.toNat % 2 ∧
    h.playchoice10.toNat = f7.toNat / 2 % 2 ∧
    (h.isInes2 = true ↔ f7.toNat / 4 % 4 = 2) ∧
    h.mapperHighNibble.toNat = f7.toNat / 16 ∧
    h.programSizeBytes = f4.toNat * 16384 ∧ h.programSizeBytes ≤ 4177920 ∧
    h.graphicsSizeBytes = f5.toNat * 8192 ∧ h.graphicsSizeBytes ≤ 2088960 ∧
    h.programRamSizeBytes = f8.toNat * 8192 ∧ h.programRamSizeBytes ≤ 2088960 ∧
    h.tvSystem.toNat = f9.toNat % 2) ∧
  (∀ (s s' : State) (c : Container), s.rom = .loaded c → s.port.requests.head? ≠ some .reset → step s = .next s' →
    s'.rom = .loaded c)

/-- 10_state.md R33: the mapper number from the two nibbles, and from the two header bytes. -/
def Obligations.MapperNumber : Prop :=
  (∀ f4 f5 f6 f7 f8 f9 : Byte,
    let h := Header.ofBytes f4 f5 f6 f7 f8 f9
    h.mapper.toNat = 16 * h.mapperHighNibble.toNat + h.mapperLowNibble.toNat ∧
    h.mapper = (f7 &&& 0xf0) ||| (f6 >>> 4)) ∧
  (∀ f4 f5 f6 f7 f8 f9 : Byte, f6.toNat / 16 = 1 → f7.toNat / 16 = 2 →
    (Header.ofBytes f4 f5 f6 f7 f8 f9).mapper = 0x21)

/-- 40_rom_container.md R143: what every accessor of a loaded container answers; none changes any state. The accessors of
the trainer and the graphics region are decision D25's. -/
def Obligations.AccessorsAnswer : Prop :=
  ∀ (s : State) (c : Container), s.rom = .loaded c →
    perform (.field .mirroring) s = .next (reply (.field (.bit c.hdr.mirroring)) s) ∧
    perform (.field .hasPersistentRam) s = .next (reply (.field (.bit c.hdr.hasPersistentRam)) s) ∧
    perform (.field .hasTrainer) s = .next (reply (.field (.bit c.hdr.hasTrainer)) s) ∧
    perform (.field .fourScreen) s = .next (reply (.field (.bit c.hdr.fourScreen)) s) ∧
    perform (.field .mapperLowNibble) s = .next (reply (.field (.nibble c.hdr.mapperLowNibble)) s) ∧
    perform (.field .vsUnisystem) s = .next (reply (.field (.bit c.hdr.vsUnisystem)) s) ∧
    perform (.field .playchoice10) s = .next (reply (.field (.bit c.hdr.playchoice10)) s) ∧
    perform (.field .isInes2) s = .next (reply (.field (.flag c.hdr.isInes2)) s) ∧
    perform (.field .mapperHighNibble) s = .next (reply (.field (.nibble c.hdr.mapperHighNibble)) s) ∧
    perform (.field .mapper) s = .next (reply (.field (.byte c.hdr.mapper)) s) ∧
    perform (.field .programSizeBytes) s = .next (reply (.field (.size c.hdr.programSizeBytes)) s) ∧
    perform (.field .graphicsSizeBytes) s = .next (reply (.field (.size c.hdr.graphicsSizeBytes)) s) ∧
    perform (.field .programRamSizeBytes) s = .next (reply (.field (.size c.hdr.programRamSizeBytes)) s) ∧
    perform (.field .tvSystem) s = .next (reply (.field (.bit c.hdr.tvSystem)) s) ∧
    perform .programRegion s = .next (reply (.region c.prg.bytes) s) ∧
    perform .trainer s = .next (reply (.region c.trn.bytes) s) ∧
    perform .graphics s = .next (reply (.region c.chr.bytes) s)

/-- `find` and `decode` as transactions (00_scope.md R12): what they answer in every state; neither changes any. -/
def Obligations.LookupTransactionsAnswer : Prop :=
  ∀ (s : State) (b : Byte) (mode : Mode) (byte1 byte2 : Byte),
    perform (.find b) s = .next (reply (.found (find s.cfg.table b)) s) ∧
    perform (.decode mode byte1 byte2) s =
      .next (reply (.decoded mode.len (operandText s.cfg.indirectRender mode byte1 byte2)) s)

/-- 42_engine.md R170: the new engine, and a container that is not loaded gives none. In a state that already holds an
engine the new one takes its place, which is log entry 7's reading of 70_reset_and_hazards.md R444; that `create` on a
container that is not loaded answers no next state is log entry 10's choice (60_exceptions.md R414, decision D32). -/
def Obligations.CreateStartsAtZero : Prop :=
  (∀ (s : State) (c : Container), s.rom = .loaded c →
    perform .create s = .next ⟨s.cfg, s.rom, some ⟨c.prg, 0, .decoding, []⟩, s.port⟩) ∧
  (∀ s t : State, s.cst ≠ .loaded → perform .create s ≠ .next t)

/-! ### Whole runs -/

/-- 42_engine.md R192: `run` ends, after at most `max(L, 1)` steps. `run` as one bounded transaction is log entry 11's
reading of R184; what one step is, is decision D8 (log entry 15). -/
def Obligations.RunEndsInBound : Prop :=
  ∀ (s : State) (e : Engine), s.engine = some e → e.Inv s.cfg →
    ∃ n e', n ≤ max e.prg.size 1 ∧ e'.est = .exhausted ∧ ExhaustedAfter n s (s.setEngine e') ∧
      run s = .next (s.setEngine e')

/-- 42_engine.md R184: an engine created on a loaded container and run gives the leading marker, one record for each
recognised instruction of the sweep in ascending order, and the trailing marker at the final cursor, where the sweep is
exhausted. A `create` beside an old engine is log entry 7's reading, `run` as one transaction log entry 11's; the leading
marker on an empty region is decision D24, and what one step is, decision D8 (log entry 15). -/
def Obligations.RunGivesTheSweep : Prop :=
  ∀ (s : State) (c : Container), s.rom = .loaded c → c.prg.isRegion →
    ∃ (s1 : State) (e : Engine) (ls : List Line) (k n : Nat),
      perform .create s = .next s1 ∧ perform .run s1 = .next (s.setEngine e) ∧ ExhaustedAfter n s1 (s.setEngine e) ∧
      e.prg = c.prg ∧ e.est = .exhausted ∧ e.lines = [.lead] ++ ls ++ [.trail e.cursor] ∧
      Swept s.cfg c.prg e.cursor ls k ∧ exhaustedAt s.cfg.table c.prg e.cursor = true ∧ ls.Pairwise Line.before ∧
      (c.prg.size = 0 → e.lines = [.lead, .trail 0])

/-- 42_engine.md R190 for every engine that meets the invariant: where the cursor is, how a step moves it, the order of the
records, and that every byte before the cursor is in a record or skipped, none twice. -/
def Obligations.EngineAccounting : Prop :=
  ∀ (s : State) (e : Engine), s.engine = some e → e.Inv s.cfg →
    e.cursor ≤ e.prg.size ∧
    (∃ e', stepEngine s = .next (s.setEngine e') ∧ e.cursor ≤ e'.cursor ∧ e'.cursor ≤ e.prg.size ∧
      (e.est = .decoding → e'.est = .exhausted ∨
        e'.cursor = e.cursor + 1 ∨ e'.cursor = e.cursor + 2 ∨ e'.cursor = e.cursor + 3)) ∧
    (∃ ls k, ls = e.lines.filter (fun r => r matches .instr ..) ∧ Swept s.cfg e.prg e.cursor ls k ∧
      e.cursor = (ls.map Line.byteCount).sum + k ∧ ls.Pairwise Line.before ∧
      ∀ r ∈ ls, r.endsBy e.prg.size)

/-- 47_unrecognized.md R393: a region made only of unrecognised bytes gives the two markers, after exactly `L` steps. The
rule is the spec's own derivation; the number of steps rests on decision D8, the leading marker before a skipped first byte on
D24 and the trailing marker's offset on D7 (log entry 15). -/
def Obligations.AllBytesUnrecognised : Prop :=
  ∀ (s : State) (bs : List Byte), bs ≠ [] → (∀ b ∈ bs, find s.cfg.table b = none) →
    ExhaustedAfter bs.length (s.setEngine ⟨Memory.ofBytes bs, 0, .decoding, []⟩)
      (s.setEngine ⟨Memory.ofBytes bs, bs.length, .exhausted, [.lead, .trail bs.length]⟩)

/-! ### The whole machine -/

/-- 10_state.md R47 and 00_scope.md R4: the state at reset, and the parameters' defaults. Which value each open parameter
has, and that `CST` is `EMPTY`, are the spec's decisions (log entries 1, 2, 16, 17, 18, 25); the empty port is log entry
4's. -/
def Obligations.ResetState : Prop :=
  State.reset.cst = .empty ∧ State.reset.rom = .empty ∧ State.reset.engine = none ∧
  State.reset.port.requests = [] ∧ State.reset.port.replies = [] ∧
  State.reset.cfg.table = TableName.rows (.asTranscribed .zpxFirst) ∧ State.reset.cfg.table.length = 151 ∧
  State.reset.cfg.indirectRender = .oneByte ∧ State.reset.cfg.checkMagic = true ∧
  State.reset.cfg.markerLead = ['*', ' ', '=', ' ', '0', '0', '0', '0'] ∧
  State.reset.cfg.markerTrailPrefix = ['.', 'E', 'N', 'D', ' '] ∧
  State.reset.cfg.bytesFieldWidth = 8 ∧ State.reset.cfg.byteHexWidth = 2 ∧
  State.reset.cfg.newline.map Char.toNat = [0x0a]

/-- The invariant holds at reset, under every configuration whose table has the facts the document settles
(41_instruction_table.md R160; log entry 19), the default one among them. -/
def Obligations.ResetMeetsInvariant : Prop :=
  (∀ cfg : Config, Table.settled cfg.table → (State.resetWith cfg).Inv) ∧ State.reset.Inv

/-- The invariant is kept by every step of the machine, whatever the host asks for (42_engine.md R190, 10_state.md R39,
R43). -/
def Obligations.InvariantKeptByEveryStep : Prop :=
  ∀ s s' : State, s.Inv → step s = .next s' → s'.Inv

/-- Every state a host can bring the block to from reset, under a table with the settled facts, meets the invariant and is
safe: the consequence of `ResetMeetsInvariant`, `InvariantKeptByEveryStep` and `ReadsStayInBounds`. -/
def Obligations.ReachableStatesAreSafe : Prop :=
  ∀ s : State, Reachable s → s.Inv ∧ s.safe

/-- From 20_memory.md R76: no transaction faults, where a read that has no byte is a fault (log entry 9), and every byte
that R176 reads in a step, at the cursor and at the offsets of the instruction found there, is at an offset below the
region's size and has a value. -/
def Obligations.ReadsStayInBounds : Prop :=
  (∀ (s : State) (q : Request), s.Inv → ∀ x : Fault, step s ≠ .fault x ∧ perform q s ≠ .fault x) ∧
  (∀ (s : State) (e : Engine), s.Inv → s.engine = some e → exhaustedAt s.cfg.table e.prg e.cursor = false →
    ∃ b, e.cursor < e.prg.size ∧ e.prg.read e.cursor = some b ∧
      ∀ d, find s.cfg.table b = some d → ∀ k, k < d.mode.len →
        e.cursor + k < e.prg.size ∧ ∃ x, e.prg.read (e.cursor + k) = some x)

/-- Every transaction asked for in the order of 70_reset_and_hazards.md R435 completes (60_exceptions.md R400: no other
exception exists). Three clauses go beyond that order: `text` of an engine that is still decoding and `step` and `run` of
an exhausted one are decision D9 (R186, R188; log entry 15), `create` beside an old engine is log entry 7's reading, and a
reset as a request is log entry 6's choice. -/
def Obligations.TransactionsInOrderComplete : Prop :=
  ∀ s : State, s.Inv →
    (∀ src, s.cst = .empty → ∃ s', perform (.load src) s = .next s') ∧
    (∀ q, s.cst = .loaded → (q ∈ [.programRegion, .trainer, .graphics, .create] ∨ ∃ f, q = .field f) →
      ∃ s', perform q s = .next s') ∧
    (∀ q, s.engine ≠ none → q ∈ [.step, .run, .text] → ∃ s', perform q s = .next s') ∧
    (∃ s', perform .reset s = .next s')

/-- A transaction out of order is refused by its name: the model's choice for what 60_exceptions.md R414 gives no
behaviour (log entry 10). A failed container admits no `load`, no accessor and no `create` (R413). -/
def Obligations.TransactionsOutOfOrderRefused : Prop :=
  ∀ s : State,
    (∀ src, s.cst ≠ .empty → perform (.load src) s = .refused .loadNotPermitted) ∧
    (∀ q, s.cst ≠ .loaded → (q ∈ [.programRegion, .trainer, .graphics, .create] ∨ ∃ f, q = .field f) →
      perform q s = .refused .containerNotLoaded) ∧
    (∀ q, s.engine = none → q ∈ [.step, .run, .text] → perform q s = .refused .noEngine) ∧
    (∀ i : Instr, s.engine = none → exec i s = .refused .noEngine)

/-- 70_reset_and_hazards.md R433: no step changes the configuration, `T` included (R431). -/
def Obligations.ConfigurationNeverChanges : Prop :=
  ∀ s s' : State, step s = .next s' → s'.cfg = s.cfg

/-- 10_state.md R23, R39: only `load` on an empty container and a reset change what the container holds. -/
def Obligations.ContainerChangesOnlyInLoad : Prop :=
  ∀ s s' : State, step s = .next s' → s'.rom ≠ s.rom →
    s.port.requests.head? = some .reset ∨
    (s.rom = .empty ∧ s'.rom ≠ .empty ∧ ∃ src, s.port.requests.head? = some (.load src))

/-- 10_state.md R42, R43, R44: apart from a new `create` and a reset, an engine keeps its program region, never takes a
record back and never moves the cursor back. That an exhausted one does not change is the spec's decision D9 (42_engine.md
R188; log entry 15). -/
def Obligations.EngineOnlyGrows : Prop :=
  ∀ (s s' : State) (e : Engine), s.Inv → s.engine = some e → step s = .next s' →
    s.port.requests.head? ≠ some .create → s.port.requests.head? ≠ some .reset →
    ∃ e', s'.engine = some e' ∧ e'.prg = e.prg ∧ e.lines <+: e'.lines ∧ e.cursor ≤ e'.cursor ∧
      (e.est = .exhausted → e' = e)

/-- 10_state.md R43: "the engine reads no other part of the container". What a step or a run of the engine does is the same
whatever the container and the port hold. -/
def Obligations.EngineReadsOnlyItsRegion : Prop :=
  ∀ (s t : State) (rom : Rom) (port : Port),
    (stepEngine s = .next t → stepEngine ⟨s.cfg, rom, s.engine, port⟩ = .next ⟨t.cfg, rom, t.engine, port⟩) ∧
    (run s = .next t → run ⟨s.cfg, rom, s.engine, port⟩ = .next ⟨t.cfg, rom, t.engine, port⟩)

/-- A step takes the host's oldest request and performs it on the state without it (log entry 4). Of a reset
(70_reset_and_hazards.md R430; log entry 6) only `T` and the configuration survive; the port is the host's. -/
def Obligations.StepTakesOldestRequest : Prop :=
  (∀ (s : State) (q : Request) (rest : List Request), s.port.requests = q :: rest →
    step s = perform q ⟨s.cfg, s.rom, s.engine, ⟨rest, s.port.replies⟩⟩) ∧
  (∀ s : State, perform .reset s = .next ⟨s.cfg, .empty, none, s.port⟩)

/-- The state with a word placed at the cursor runs the word's instruction at the next step (log entry 5). -/
def Obligations.PlacedWordRuns : Prop :=
  ∀ (s : State) (nbits w : Nat) (i : Instr), s.cfg.table = Config.default.table → decodeTableWord nbits w = some i →
    ∃ e, (s.withFetchWord nbits w).engine = some e ∧ e.est = .decoding ∧ e.cursor + i.mode.len ≤ e.prg.size ∧
      step (s.withFetchWord nbits w) = exec i ((s.withFetchWord nbits w).setEngine e.lead)
end

