-- ==== Sys2Proof/Laws/Memory.lean ====
section
/-! SUPPORT. The laws of the byte spaces: every operation keeps the canonical form, and what a read of a region gives. -/

namespace Sys2Proof.Machine

/-- A region is in canonical form. -/
theorem Memory.isRegion.wf {m : Memory} (h : m.isRegion) : m.wf := by
  rw [Memory.wf, h]; exact List.pairwise_lt_range

/-- The space built from a byte sequence is a region. -/
theorem Memory.ofBytes_isRegion (bs : List Byte) : (Memory.ofBytes bs).isRegion := by
  simp [Memory.isRegion, Memory.ofBytes, List.map_fst_zip]

/-- The space built from a byte sequence is in canonical form. -/
theorem Memory.ofBytes_wf (bs : List Byte) : (Memory.ofBytes bs).wf := (Memory.ofBytes_isRegion bs).wf

@[simp] theorem Memory.ofBytes_bytes (bs : List Byte) : (Memory.ofBytes bs).bytes = bs := by
  simp [Memory.bytes, Memory.ofBytes, List.map_snd_zip]

@[simp] theorem Memory.ofBytes_size (bs : List Byte) : (Memory.ofBytes bs).size = bs.length := by
  simp [Memory.size, Memory.ofBytes]

@[simp] theorem Memory.bytes_length (m : Memory) : m.bytes.length = m.size := by
  simp [Memory.bytes, Memory.size]

/-- Looking a key up in cells numbered from `s` on is indexing their bytes. -/
theorem find_cells_of_range (cells : List Host.Cell) (s a : Nat)
    (h : cells.map Prod.fst = List.range' s cells.length) (hs : s ≤ a) :
    (cells.find? (fun c => c.1 == a)).map Prod.snd = (cells.map Prod.snd)[a - s]? := by
  induction cells generalizing s with
  | nil => simp
  | cons c cs ih =>
    simp only [List.map_cons, List.length_cons, List.range'_succ, List.cons.injEq] at h
    obtain ⟨hc, ht⟩ := h
    by_cases hca : c.1 = a
    · have : a - s = 0 := by omega
      simp [hca, this]
    · have hlt : s + 1 ≤ a := by omega
      have hsub : a - s = (a - (s + 1)) + 1 := by omega
      rw [List.find?_cons_of_neg (by simpa using hca), ih (s + 1) ht hlt, hsub]
      simp

/-- A read of a region is its byte at that offset, and none from the region's length on. -/
theorem Memory.isRegion.read {m : Memory} (h : m.isRegion) (a : Nat) : m.read a = m.bytes[a]? := by
  have := find_cells_of_range m.cells 0 a (by rw [h, List.range_eq_range']) (Nat.zero_le a)
  simpa [Memory.read, Memory.bytes] using this

theorem Memory.isRegion.read_of_lt {m : Memory} (h : m.isRegion) {a : Nat} (ha : a < m.size) :
    ∃ b, m.read a = some b ∧ m.bytes[a]? = some b :=
  ⟨m.bytes[a]'(by simpa using ha), by rw [h.read]; simp [ha], by simp [ha]⟩

theorem Memory.slice_zero (m : Memory) (c : Nat) : m.slice c 0 = [] := by simp [Memory.slice]

theorem Memory.slice_succ (m : Memory) (c n : Nat) {b : Byte} (hb : m.bytes[c]? = some b) :
    m.slice c (n + 1) = b :: m.slice (c + 1) n := by
  obtain ⟨hc, hb⟩ := List.getElem?_eq_some_iff.1 hb
  simp only [Memory.slice]
  rw [List.drop_eq_getElem_cons hc, List.take_succ_cons, hb]

theorem Memory.slice_length {m : Memory} {c n : Nat} (h : c + n ≤ m.size) : (m.slice c n).length = n := by
  simp [Memory.slice]; omega

/-- Reading `n` bytes of a region that has them gives that slice of it. -/
theorem Memory.isRegion.readBytes {m : Memory} (h : m.isRegion) {c n : Nat} (hn : c + n ≤ m.size) :
    m.readBytes c n = some (m.slice c n) := by
  induction n generalizing c with
  | zero => simp [Memory.readBytes, Memory.slice]
  | succ n ih =>
    obtain ⟨b, hb, hb'⟩ := h.read_of_lt (a := c) (by omega)
    rw [Memory.readBytes, hb, ih (by omega), m.slice_succ c n hb']

/-- The window of a region is the slice that starts there, cut at the region's end. -/
theorem Memory.isRegion.window {m : Memory} (h : m.isRegion) (c n : Nat) : m.window c n = m.slice c n := by
  induction n generalizing c with
  | zero => simp [Memory.window, Memory.slice]
  | succ n ih =>
    by_cases hc : c < m.size
    · obtain ⟨b, hb, hb'⟩ := h.read_of_lt hc
      rw [Memory.window, hb, m.slice_succ c n hb', ih]
    · have hr : m.read c = none := by rw [h.read]; simp; omega
      have hl : m.bytes.drop c = [] := by simp; omega
      simp [Memory.window, hr, Memory.slice, hl]

/-- Placing bytes at an engine's cursor leaves its program region a region. -/
theorem Engine.withBytes_isRegion (e : Engine) (bs : List Byte) : (e.withBytes bs).prg.isRegion :=
  Memory.ofBytes_isRegion _

/-- The buffers a `load` builds are regions. -/
theorem containerOf_isRegion (h : Header) (f : List Byte) :
    (containerOf h f).trn.isRegion ∧ (containerOf h f).prg.isRegion ∧ (containerOf h f).chr.isRegion :=
  ⟨Memory.ofBytes_isRegion _, Memory.ofBytes_isRegion _, Memory.ofBytes_isRegion _⟩

/-- No byte space exists at reset, so every one that exists is in canonical form. -/
theorem reset_memory_wf (cfg : Config) :
    (∀ c, (State.resetWith cfg).rom = .loaded c → c.trn.wf ∧ c.prg.wf ∧ c.chr.wf) ∧
    (∀ e, (State.resetWith cfg).engine = some e → e.prg.wf) := by
  constructor <;> intro x h <;> cases h

end Sys2Proof.Machine
end

