-- ==== Sys2Proof/Laws/PerInstr.lean ====
section
/-! SUPPORT. The family `Pairing`, one lemma per constructor of `Instr`: an instruction is the one its own mnemonic, mode
and operand bytes name, and it has one byte less than its mode's length of operands (30_encoding.md R94). -/

namespace Sys2Proof.Laws.Pairing

/-- `Instr.ofRow` inverts the three projections, and the operand bytes fill the mode's format. -/
def Statement (i : Instr) : Prop :=
  Instr.ofRow i.mnemonic i.mode i.operands = some i ∧ i.operands.length + 1 = i.mode.len

theorem adcImmediate (byte1 : Byte) : Statement (.adcImmediate byte1) := ⟨rfl, rfl⟩
theorem adcZeropage (byte1 : Byte) : Statement (.adcZeropage byte1) := ⟨rfl, rfl⟩
theorem adcZeropageX (byte1 : Byte) : Statement (.adcZeropageX byte1) := ⟨rfl, rfl⟩
theorem adcAbsolute (byte1 byte2 : Byte) : Statement (.adcAbsolute byte1 byte2) := ⟨rfl, rfl⟩
theorem adcAbsoluteX (byte1 byte2 : Byte) : Statement (.adcAbsoluteX byte1 byte2) := ⟨rfl, rfl⟩
theorem adcAbsoluteY (byte1 byte2 : Byte) : Statement (.adcAbsoluteY byte1 byte2) := ⟨rfl, rfl⟩
theorem adcIndirectX (byte1 : Byte) : Statement (.adcIndirectX byte1) := ⟨rfl, rfl⟩
theorem adcIndirectY (byte1 : Byte) : Statement (.adcIndirectY byte1) := ⟨rfl, rfl⟩
theorem andImmediate (byte1 : Byte) : Statement (.andImmediate byte1) := ⟨rfl, rfl⟩
theorem andZeropage (byte1 : Byte) : Statement (.andZeropage byte1) := ⟨rfl, rfl⟩
theorem andZeropageX (byte1 : Byte) : Statement (.andZeropageX byte1) := ⟨rfl, rfl⟩
theorem andAbsolute (byte1 byte2 : Byte) : Statement (.andAbsolute byte1 byte2) := ⟨rfl, rfl⟩
theorem andAbsoluteX (byte1 byte2 : Byte) : Statement (.andAbsoluteX byte1 byte2) := ⟨rfl, rfl⟩
theorem andAbsoluteY (byte1 byte2 : Byte) : Statement (.andAbsoluteY byte1 byte2) := ⟨rfl, rfl⟩
theorem andIndirectX (byte1 : Byte) : Statement (.andIndirectX byte1) := ⟨rfl, rfl⟩
theorem andIndirectY (byte1 : Byte) : Statement (.andIndirectY byte1) := ⟨rfl, rfl⟩
theorem aslAccumulator : Statement (.aslAccumulator) := ⟨rfl, rfl⟩
theorem aslZeropage (byte1 : Byte) : Statement (.aslZeropage byte1) := ⟨rfl, rfl⟩
theorem aslZeropageX (byte1 : Byte) : Statement (.aslZeropageX byte1) := ⟨rfl, rfl⟩
theorem aslAbsolute (byte1 byte2 : Byte) : Statement (.aslAbsolute byte1 byte2) := ⟨rfl, rfl⟩
theorem aslAbsoluteX (byte1 byte2 : Byte) : Statement (.aslAbsoluteX byte1 byte2) := ⟨rfl, rfl⟩
theorem bccRelative (byte1 : Byte) : Statement (.bccRelative byte1) := ⟨rfl, rfl⟩
theorem bcsRelative (byte1 : Byte) : Statement (.bcsRelative byte1) := ⟨rfl, rfl⟩
theorem beqRelative (byte1 : Byte) : Statement (.beqRelative byte1) := ⟨rfl, rfl⟩
theorem bitZeropage (byte1 : Byte) : Statement (.bitZeropage byte1) := ⟨rfl, rfl⟩
theorem bitAbsolute (byte1 byte2 : Byte) : Statement (.bitAbsolute byte1 byte2) := ⟨rfl, rfl⟩
theorem bmiRelative (byte1 : Byte) : Statement (.bmiRelative byte1) := ⟨rfl, rfl⟩
theorem bneRelative (byte1 : Byte) : Statement (.bneRelative byte1) := ⟨rfl, rfl⟩
theorem bplRelative (byte1 : Byte) : Statement (.bplRelative byte1) := ⟨rfl, rfl⟩
theorem brkImplied : Statement (.brkImplied) := ⟨rfl, rfl⟩
theorem bvcRelative (byte1 : Byte) : Statement (.bvcRelative byte1) := ⟨rfl, rfl⟩
theorem bvsRelative (byte1 : Byte) : Statement (.bvsRelative byte1) := ⟨rfl, rfl⟩
theorem clcImplied : Statement (.clcImplied) := ⟨rfl, rfl⟩
theorem cldImplied : Statement (.cldImplied) := ⟨rfl, rfl⟩
theorem cliImplied : Statement (.cliImplied) := ⟨rfl, rfl⟩
theorem clvImplied : Statement (.clvImplied) := ⟨rfl, rfl⟩
theorem cmpImmediate (byte1 : Byte) : Statement (.cmpImmediate byte1) := ⟨rfl, rfl⟩
theorem cmpZeropage (byte1 : Byte) : Statement (.cmpZeropage byte1) := ⟨rfl, rfl⟩
theorem cmpZeropageX (byte1 : Byte) : Statement (.cmpZeropageX byte1) := ⟨rfl, rfl⟩
theorem cmpAbsolute (byte1 byte2 : Byte) : Statement (.cmpAbsolute byte1 byte2) := ⟨rfl, rfl⟩
theorem cmpAbsoluteX (byte1 byte2 : Byte) : Statement (.cmpAbsoluteX byte1 byte2) := ⟨rfl, rfl⟩
theorem cmpAbsoluteY (byte1 byte2 : Byte) : Statement (.cmpAbsoluteY byte1 byte2) := ⟨rfl, rfl⟩
theorem cmpIndirectX (byte1 : Byte) : Statement (.cmpIndirectX byte1) := ⟨rfl, rfl⟩
theorem cmpIndirectY (byte1 : Byte) : Statement (.cmpIndirectY byte1) := ⟨rfl, rfl⟩
theorem cpxImmediate (byte1 : Byte) : Statement (.cpxImmediate byte1) := ⟨rfl, rfl⟩
theorem cpxZeropage (byte1 : Byte) : Statement (.cpxZeropage byte1) := ⟨rfl, rfl⟩
theorem cpxAbsolute (byte1 byte2 : Byte) : Statement (.cpxAbsolute byte1 byte2) := ⟨rfl, rfl⟩
theorem cpyImmediate (byte1 : Byte) : Statement (.cpyImmediate byte1) := ⟨rfl, rfl⟩
theorem cpyZeropage (byte1 : Byte) : Statement (.cpyZeropage byte1) := ⟨rfl, rfl⟩
theorem cpyAbsolute (byte1 byte2 : Byte) : Statement (.cpyAbsolute byte1 byte2) := ⟨rfl, rfl⟩
theorem decZeropage (byte1 : Byte) : Statement (.decZeropage byte1) := ⟨rfl, rfl⟩
theorem decZeropageX (byte1 : Byte) : Statement (.decZeropageX byte1) := ⟨rfl, rfl⟩
theorem decAbsolute (byte1 byte2 : Byte) : Statement (.decAbsolute byte1 byte2) := ⟨rfl, rfl⟩
theorem decAbsoluteX (byte1 byte2 : Byte) : Statement (.decAbsoluteX byte1 byte2) := ⟨rfl, rfl⟩
theorem dexImplied : Statement (.dexImplied) := ⟨rfl, rfl⟩
theorem deyImplied : Statement (.deyImplied) := ⟨rfl, rfl⟩
theorem eorImmediate (byte1 : Byte) : Statement (.eorImmediate byte1) := ⟨rfl, rfl⟩
theorem eorZeropage (byte1 : Byte) : Statement (.eorZeropage byte1) := ⟨rfl, rfl⟩
theorem eorZeropageX (byte1 : Byte) : Statement (.eorZeropageX byte1) := ⟨rfl, rfl⟩
theorem eorAbsolute (byte1 byte2 : Byte) : Statement (.eorAbsolute byte1 byte2) := ⟨rfl, rfl⟩
theorem eorAbsoluteX (byte1 byte2 : Byte) : Statement (.eorAbsoluteX byte1 byte2) := ⟨rfl, rfl⟩
theorem eorAbsoluteY (byte1 byte2 : Byte) : Statement (.eorAbsoluteY byte1 byte2) := ⟨rfl, rfl⟩
theorem eorIndirectX (byte1 : Byte) : Statement (.eorIndirectX byte1) := ⟨rfl, rfl⟩
theorem eorIndirectY (byte1 : Byte) : Statement (.eorIndirectY byte1) := ⟨rfl, rfl⟩
theorem incZeropage (byte1 : Byte) : Statement (.incZeropage byte1) := ⟨rfl, rfl⟩
theorem incZeropageX (byte1 : Byte) : Statement (.incZeropageX byte1) := ⟨rfl, rfl⟩
theorem incAbsolute (byte1 byte2 : Byte) : Statement (.incAbsolute byte1 byte2) := ⟨rfl, rfl⟩
theorem incAbsoluteX (byte1 byte2 : Byte) : Statement (.incAbsoluteX byte1 byte2) := ⟨rfl, rfl⟩
theorem inxImplied : Statement (.inxImplied) := ⟨rfl, rfl⟩
theorem inyImplied : Statement (.inyImplied) := ⟨rfl, rfl⟩
theorem jmpAbsolute (byte1 byte2 : Byte) : Statement (.jmpAbsolute byte1 byte2) := ⟨rfl, rfl⟩
theorem jmpIndirect (byte1 byte2 : Byte) : Statement (.jmpIndirect byte1 byte2) := ⟨rfl, rfl⟩
theorem jsrAbsolute (byte1 byte2 : Byte) : Statement (.jsrAbsolute byte1 byte2) := ⟨rfl, rfl⟩
theorem ldaImmediate (byte1 : Byte) : Statement (.ldaImmediate byte1) := ⟨rfl, rfl⟩
theorem ldaZeropage (byte1 : Byte) : Statement (.ldaZeropage byte1) := ⟨rfl, rfl⟩
theorem ldaZeropageX (byte1 : Byte) : Statement (.ldaZeropageX byte1) := ⟨rfl, rfl⟩
theorem ldaAbsolute (byte1 byte2 : Byte) : Statement (.ldaAbsolute byte1 byte2) := ⟨rfl, rfl⟩
theorem ldaAbsoluteX (byte1 byte2 : Byte) : Statement (.ldaAbsoluteX byte1 byte2) := ⟨rfl, rfl⟩
theorem ldaAbsoluteY (byte1 byte2 : Byte) : Statement (.ldaAbsoluteY byte1 byte2) := ⟨rfl, rfl⟩
theorem ldaIndirectX (byte1 : Byte) : Statement (.ldaIndirectX byte1) := ⟨rfl, rfl⟩
theorem ldaIndirectY (byte1 : Byte) : Statement (.ldaIndirectY byte1) := ⟨rfl, rfl⟩
theorem ldxImmediate (byte1 : Byte) : Statement (.ldxImmediate byte1) := ⟨rfl, rfl⟩
theorem ldxZeropage (byte1 : Byte) : Statement (.ldxZeropage byte1) := ⟨rfl, rfl⟩
theorem ldxZeropageY (byte1 : Byte) : Statement (.ldxZeropageY byte1) := ⟨rfl, rfl⟩
theorem ldxAbsolute (byte1 byte2 : Byte) : Statement (.ldxAbsolute byte1 byte2) := ⟨rfl, rfl⟩
theorem ldxAbsoluteY (byte1 byte2 : Byte) : Statement (.ldxAbsoluteY byte1 byte2) := ⟨rfl, rfl⟩
theorem ldyImmediate (byte1 : Byte) : Statement (.ldyImmediate byte1) := ⟨rfl, rfl⟩
theorem ldyZeropage (byte1 : Byte) : Statement (.ldyZeropage byte1) := ⟨rfl, rfl⟩
theorem ldyZeropageX (byte1 : Byte) : Statement (.ldyZeropageX byte1) := ⟨rfl, rfl⟩
theorem ldyAbsolute (byte1 byte2 : Byte) : Statement (.ldyAbsolute byte1 byte2) := ⟨rfl, rfl⟩
theorem ldyAbsoluteX (byte1 byte2 : Byte) : Statement (.ldyAbsoluteX byte1 byte2) := ⟨rfl, rfl⟩
theorem lsrAccumulator : Statement (.lsrAccumulator) := ⟨rfl, rfl⟩
theorem lsrZeropage (byte1 : Byte) : Statement (.lsrZeropage byte1) := ⟨rfl, rfl⟩
theorem lsrZeropageX (byte1 : Byte) : Statement (.lsrZeropageX byte1) := ⟨rfl, rfl⟩
theorem lsrAbsolute (byte1 byte2 : Byte) : Statement (.lsrAbsolute byte1 byte2) := ⟨rfl, rfl⟩
theorem lsrAbsoluteX (byte1 byte2 : Byte) : Statement (.lsrAbsoluteX byte1 byte2) := ⟨rfl, rfl⟩
theorem nopImplied : Statement (.nopImplied) := ⟨rfl, rfl⟩
theorem oraImmediate (byte1 : Byte) : Statement (.oraImmediate byte1) := ⟨rfl, rfl⟩
theorem oraZeropage (byte1 : Byte) : Statement (.oraZeropage byte1) := ⟨rfl, rfl⟩
theorem oraZeropageX (byte1 : Byte) : Statement (.oraZeropageX byte1) := ⟨rfl, rfl⟩
theorem oraAbsolute (byte1 byte2 : Byte) : Statement (.oraAbsolute byte1 byte2) := ⟨rfl, rfl⟩
theorem oraAbsoluteX (byte1 byte2 : Byte) : Statement (.oraAbsoluteX byte1 byte2) := ⟨rfl, rfl⟩
theorem oraAbsoluteY (byte1 byte2 : Byte) : Statement (.oraAbsoluteY byte1 byte2) := ⟨rfl, rfl⟩
theorem oraIndirectX (byte1 : Byte) : Statement (.oraIndirectX byte1) := ⟨rfl, rfl⟩
theorem oraIndirectY (byte1 : Byte) : Statement (.oraIndirectY byte1) := ⟨rfl, rfl⟩
theorem phaImplied : Statement (.phaImplied) := ⟨rfl, rfl⟩
theorem phpImplied : Statement (.phpImplied) := ⟨rfl, rfl⟩
theorem plaImplied : Statement (.plaImplied) := ⟨rfl, rfl⟩
theorem plpImplied : Statement (.plpImplied) := ⟨rfl, rfl⟩
theorem rolAccumulator : Statement (.rolAccumulator) := ⟨rfl, rfl⟩
theorem rolZeropage (byte1 : Byte) : Statement (.rolZeropage byte1) := ⟨rfl, rfl⟩
theorem rolZeropageX (byte1 : Byte) : Statement (.rolZeropageX byte1) := ⟨rfl, rfl⟩
theorem rolAbsolute (byte1 byte2 : Byte) : Statement (.rolAbsolute byte1 byte2) := ⟨rfl, rfl⟩
theorem rolAbsoluteX (byte1 byte2 : Byte) : Statement (.rolAbsoluteX byte1 byte2) := ⟨rfl, rfl⟩
theorem rorAccumulator : Statement (.rorAccumulator) := ⟨rfl, rfl⟩
theorem rorZeropage (byte1 : Byte) : Statement (.rorZeropage byte1) := ⟨rfl, rfl⟩
theorem rorZeropageX (byte1 : Byte) : Statement (.rorZeropageX byte1) := ⟨rfl, rfl⟩
theorem rorAbsolute (byte1 byte2 : Byte) : Statement (.rorAbsolute byte1 byte2) := ⟨rfl, rfl⟩
theorem rorAbsoluteX (byte1 byte2 : Byte) : Statement (.rorAbsoluteX byte1 byte2) := ⟨rfl, rfl⟩
theorem rtiImplied : Statement (.rtiImplied) := ⟨rfl, rfl⟩
theorem rtsImplied : Statement (.rtsImplied) := ⟨rfl, rfl⟩
theorem sbcImmediate (byte1 : Byte) : Statement (.sbcImmediate byte1) := ⟨rfl, rfl⟩
theorem sbcZeropage (byte1 : Byte) : Statement (.sbcZeropage byte1) := ⟨rfl, rfl⟩
theorem sbcZeropageX (byte1 : Byte) : Statement (.sbcZeropageX byte1) := ⟨rfl, rfl⟩
theorem sbcAbsolute (byte1 byte2 : Byte) : Statement (.sbcAbsolute byte1 byte2) := ⟨rfl, rfl⟩
theorem sbcAbsoluteX (byte1 byte2 : Byte) : Statement (.sbcAbsoluteX byte1 byte2) := ⟨rfl, rfl⟩
theorem sbcAbsoluteY (byte1 byte2 : Byte) : Statement (.sbcAbsoluteY byte1 byte2) := ⟨rfl, rfl⟩
theorem sbcIndirectX (byte1 : Byte) : Statement (.sbcIndirectX byte1) := ⟨rfl, rfl⟩
theorem sbcIndirectY (byte1 : Byte) : Statement (.sbcIndirectY byte1) := ⟨rfl, rfl⟩
theorem secImplied : Statement (.secImplied) := ⟨rfl, rfl⟩
theorem sedImplied : Statement (.sedImplied) := ⟨rfl, rfl⟩
theorem seiImplied : Statement (.seiImplied) := ⟨rfl, rfl⟩
theorem staZeropage (byte1 : Byte) : Statement (.staZeropage byte1) := ⟨rfl, rfl⟩
theorem staZeropageX (byte1 : Byte) : Statement (.staZeropageX byte1) := ⟨rfl, rfl⟩
theorem staAbsolute (byte1 byte2 : Byte) : Statement (.staAbsolute byte1 byte2) := ⟨rfl, rfl⟩
theorem staAbsoluteX (byte1 byte2 : Byte) : Statement (.staAbsoluteX byte1 byte2) := ⟨rfl, rfl⟩
theorem staAbsoluteY (byte1 byte2 : Byte) : Statement (.staAbsoluteY byte1 byte2) := ⟨rfl, rfl⟩
theorem staIndirectX (byte1 : Byte) : Statement (.staIndirectX byte1) := ⟨rfl, rfl⟩
theorem staIndirectY (byte1 : Byte) : Statement (.staIndirectY byte1) := ⟨rfl, rfl⟩
theorem stxZeropage (byte1 : Byte) : Statement (.stxZeropage byte1) := ⟨rfl, rfl⟩
theorem stxZeropageY (byte1 : Byte) : Statement (.stxZeropageY byte1) := ⟨rfl, rfl⟩
theorem stxAbsolute (byte1 byte2 : Byte) : Statement (.stxAbsolute byte1 byte2) := ⟨rfl, rfl⟩
theorem styZeropage (byte1 : Byte) : Statement (.styZeropage byte1) := ⟨rfl, rfl⟩
theorem styZeropageX (byte1 : Byte) : Statement (.styZeropageX byte1) := ⟨rfl, rfl⟩
theorem styAbsolute (byte1 byte2 : Byte) : Statement (.styAbsolute byte1 byte2) := ⟨rfl, rfl⟩
theorem taxImplied : Statement (.taxImplied) := ⟨rfl, rfl⟩
theorem tayImplied : Statement (.tayImplied) := ⟨rfl, rfl⟩
theorem tsxImplied : Statement (.tsxImplied) := ⟨rfl, rfl⟩
theorem txaImplied : Statement (.txaImplied) := ⟨rfl, rfl⟩
theorem txsImplied : Statement (.txsImplied) := ⟨rfl, rfl⟩
theorem tyaImplied : Statement (.tyaImplied) := ⟨rfl, rfl⟩

end Sys2Proof.Laws.Pairing
end

