-- ==== Sys2Proof/Laws/State.lean ====
section
/-! SUPPORT. One lemma per field and update of the state, all true by definition. -/

namespace Sys2Proof.Machine

@[simp] theorem State.setEngine_cfg (s : State) (e : Engine) : (s.setEngine e).cfg = s.cfg := rfl
@[simp] theorem State.setEngine_rom (s : State) (e : Engine) : (s.setEngine e).rom = s.rom := rfl
@[simp] theorem State.setEngine_engine (s : State) (e : Engine) : (s.setEngine e).engine = some e := rfl
@[simp] theorem State.setEngine_port (s : State) (e : Engine) : (s.setEngine e).port = s.port := rfl
@[simp] theorem State.setEngine_setEngine (s : State) (e e' : Engine) :
    (s.setEngine e).setEngine e' = s.setEngine e' := rfl

theorem State.setEngine_self {s : State} {e : Engine} (h : s.engine = some e) : s.setEngine e = s := by
  cases s; cases h; rfl

@[simp] theorem State.resetWith_cfg (cfg : Config) : (State.resetWith cfg).cfg = cfg := rfl
@[simp] theorem State.resetWith_rom (cfg : Config) : (State.resetWith cfg).rom = .empty := rfl
@[simp] theorem State.resetWith_engine (cfg : Config) : (State.resetWith cfg).engine = none := rfl
@[simp] theorem State.resetWith_port (cfg : Config) : (State.resetWith cfg).port = ⟨[], []⟩ := rfl

@[simp] theorem resetBlock_cfg (s : State) : (resetBlock s).cfg = s.cfg := rfl
@[simp] theorem resetBlock_rom (s : State) : (resetBlock s).rom = .empty := rfl
@[simp] theorem resetBlock_engine (s : State) : (resetBlock s).engine = none := rfl
@[simp] theorem resetBlock_port (s : State) : (resetBlock s).port = s.port := rfl

@[simp] theorem reply_cfg (r : Reply) (s : State) : (reply r s).cfg = s.cfg := rfl
@[simp] theorem reply_rom (r : Reply) (s : State) : (reply r s).rom = s.rom := rfl
@[simp] theorem reply_engine (r : Reply) (s : State) : (reply r s).engine = s.engine := rfl
@[simp] theorem reply_requests (r : Reply) (s : State) : (reply r s).port.requests = s.port.requests := rfl
@[simp] theorem reply_replies (r : Reply) (s : State) : (reply r s).port.replies = s.port.replies ++ [r] := rfl

@[simp] theorem State.ask_cfg (s : State) (r : Request) : (s.ask r).cfg = s.cfg := rfl
@[simp] theorem State.ask_rom (s : State) (r : Request) : (s.ask r).rom = s.rom := rfl
@[simp] theorem State.ask_engine (s : State) (r : Request) : (s.ask r).engine = s.engine := rfl

@[simp] theorem finishEngine_cfg (s : State) : (finishEngine s).cfg = s.cfg := rfl
@[simp] theorem finishEngine_rom (s : State) : (finishEngine s).rom = s.rom := rfl
@[simp] theorem finishEngine_port (s : State) : (finishEngine s).port = s.port := rfl
@[simp] theorem finishEngine_engine (s : State) :
    (finishEngine s).engine = s.engine.map (fun e => e.finish s.cfg.table) := rfl

@[simp] theorem takeException_cfg (x : Exn) (s : State) : (takeException x s).cfg = s.cfg := by
  cases x with
  | load x => cases x <;> rfl
  | decodeError => rfl
@[simp] theorem takeException_port (x : Exn) (s : State) : (takeException x s).port = s.port := by
  cases x with
  | load x => cases x <;> rfl
  | decodeError => rfl
@[simp] theorem takeException_load_engine (x : LoadError) (s : State) :
    (takeException (.load x) s).engine = none := by cases x <;> rfl
@[simp] theorem takeException_decodeError_rom (s : State) : (takeException .decodeError s).rom = s.rom := rfl
@[simp] theorem takeException_decodeError_engine (s : State) :
    (takeException .decodeError s).engine = s.engine.map (fun e => e.advance 1) := rfl

@[simp] theorem Engine.append_prg (e : Engine) (r : Line) : (e.append r).prg = e.prg := rfl
@[simp] theorem Engine.append_cursor (e : Engine) (r : Line) : (e.append r).cursor = e.cursor := rfl
@[simp] theorem Engine.append_est (e : Engine) (r : Line) : (e.append r).est = e.est := rfl
@[simp] theorem Engine.append_lines (e : Engine) (r : Line) : (e.append r).lines = e.lines ++ [r] := rfl

@[simp] theorem Engine.advance_prg (e : Engine) (n : Nat) : (e.advance n).prg = e.prg := rfl
@[simp] theorem Engine.advance_cursor (e : Engine) (n : Nat) : (e.advance n).cursor = e.cursor + n := rfl
@[simp] theorem Engine.advance_est (e : Engine) (n : Nat) : (e.advance n).est = e.est := rfl
@[simp] theorem Engine.advance_lines (e : Engine) (n : Nat) : (e.advance n).lines = e.lines := rfl

@[simp] theorem Engine.exhaust_prg (e : Engine) : e.exhaust.prg = e.prg := rfl
@[simp] theorem Engine.exhaust_cursor (e : Engine) : e.exhaust.cursor = e.cursor := rfl
@[simp] theorem Engine.exhaust_est (e : Engine) : e.exhaust.est = .exhausted := rfl
@[simp] theorem Engine.exhaust_lines (e : Engine) : e.exhaust.lines = e.lines ++ [.trail e.cursor] := rfl

@[simp] theorem Engine.lead_prg (e : Engine) : e.lead.prg = e.prg := by unfold Engine.lead; split <;> rfl
@[simp] theorem Engine.lead_cursor (e : Engine) : e.lead.cursor = e.cursor := by unfold Engine.lead; split <;> rfl
@[simp] theorem Engine.lead_est (e : Engine) : e.lead.est = e.est := by unfold Engine.lead; split <;> rfl
@[simp] theorem Engine.lead_lines (e : Engine) : e.lead.lines = e.lines ++ leadAt e.cursor := by
  unfold Engine.lead leadAt; split <;> simp

@[simp] theorem Engine.finish_prg (e : Engine) (T : List Descriptor) : (e.finish T).prg = e.prg := by
  unfold Engine.finish; split <;> rfl
@[simp] theorem Engine.finish_cursor (e : Engine) (T : List Descriptor) : (e.finish T).cursor = e.cursor := by
  unfold Engine.finish; split <;> rfl

@[simp] theorem newEngine_prg (m : Memory) : (newEngine m).prg = m := rfl
@[simp] theorem newEngine_cursor (m : Memory) : (newEngine m).cursor = 0 := rfl
@[simp] theorem newEngine_est (m : Memory) : (newEngine m).est = .decoding := rfl
@[simp] theorem newEngine_lines (m : Memory) : (newEngine m).lines = [] := rfl

end Sys2Proof.Machine
end

