-- ==== Sys2Proof/Laws/Ops.lean ====
section
/-! SUPPORT. For each shared operation, one lemma that says once everything it can do. -/

namespace Sys2Proof.Machine

/-! ### The terminal condition -/

/-- The terminal condition, by what stands at the offset. -/
theorem exhaustedAt_of_size_le {T : List Descriptor} {prg : Memory} {c : Nat} (h : prg.size ≤ c) :
    exhaustedAt T prg c = true := by
  have : 0 < requiredLength T prg c := by
    unfold requiredLength
    split
    · exact Nat.one_pos
    · split
      · exact Nat.one_pos
      · cases ‹Descriptor›.mode <;> decide
  simp only [exhaustedAt, decide_eq_true_eq]; omega

theorem exhaustedAt_of_absent {T : List Descriptor} {prg : Memory} {c : Nat} {b : Byte}
    (hb : prg.read c = some b) (hf : find T b = none) : exhaustedAt T prg c = decide (prg.size - c < 1) := by
  simp [exhaustedAt, requiredLength, hb, hf]

theorem exhaustedAt_of_row {T : List Descriptor} {prg : Memory} {c : Nat} {b : Byte} {d : Descriptor}
    (hb : prg.read c = some b) (hf : find T b = some d) :
    exhaustedAt T prg c = decide (prg.size - c < d.mode.len) := by
  simp [exhaustedAt, requiredLength, hb, hf]

/-- An offset that is not exhausted holds a byte, in a region. -/
theorem byte_of_not_exhausted {T : List Descriptor} {prg : Memory} (hr : prg.isRegion) {c : Nat}
    (h : exhaustedAt T prg c = false) : ∃ b, prg.read c = some b ∧ prg.bytes[c]? = some b := by
  apply hr.read_of_lt
  rcases Nat.lt_or_ge c prg.size with hc | hc
  · exact hc
  · rw [exhaustedAt_of_size_le hc] at h; cases h

theorem Mode.len_pos (mode : Mode) : 1 ≤ mode.len := by cases mode <;> decide
theorem Mode.len_le_three (mode : Mode) : mode.len ≤ 3 := by cases mode <;> decide

/-! ### The engine -/

/-- The final check leaves the engine as it is or makes it exhausted, as the new cursor says. -/
theorem Engine.finish_eq (e : Engine) (T : List Descriptor) :
    e.finish T = if exhaustedAt T e.prg e.cursor then e.exhaust else e := rfl

/-- In a region with room for the instruction, the shared effect is the record, the advance and the check. -/
theorem Engine.emit_eq_recorded {e : Engine} {T : List Descriptor} {n : Nat} {m : Mnemonic} {operand : Text}
    (hd : e.est = .decoding) (hn : e.cursor + n ≤ e.prg.size) :
    e.emit T (e.prg.slice e.cursor n) m operand = e.recorded T n m operand := by
  have hl := Memory.slice_length hn
  cases e with
  | mk prg cursor est lines =>
    cases hd
    simp only [Engine.emit, Engine.append, Engine.advance, Engine.finish, Engine.exhaust, Engine.recorded, hl]
    split <;> simp

/-! ### One instruction -/

/-- Every instruction's meaning is the shared decode of its own mnemonic, mode and operand bytes. -/
theorem exec_eq_decodeAs (i : Instr) (s : State) :
    exec i s = decodeAs i.mnemonic i.mode (i.operands.getD 0 0) (i.operands.getD 1 0) s := by
  cases i <;> rfl

/-- Everything the shared decode can do. -/
theorem decodeAs_cases (m : Mnemonic) (mode : Mode) (byte1 byte2 : Byte) (s : State) :
    (s.engine = none ∧ decodeAs m mode byte1 byte2 s = .refused .noEngine) ∨
    ∃ e, s.engine = some e ∧
      ((e.est = .exhausted ∧ decodeAs m mode byte1 byte2 s = .next s) ∨
       (e.est = .decoding ∧ e.prg.size - e.cursor < mode.len ∧
        decodeAs m mode byte1 byte2 s = .next (s.setEngine e.exhaust)) ∨
       (e.est = .decoding ∧ ¬ e.prg.size - e.cursor < mode.len ∧ e.prg.readBytes e.cursor mode.len = none ∧
        decodeAs m mode byte1 byte2 s = .fault .readOutsideRegion) ∨
       (e.est = .decoding ∧ ¬ e.prg.size - e.cursor < mode.len ∧
        ∃ bytes, e.prg.readBytes e.cursor mode.len = some bytes ∧
          decodeAs m mode byte1 byte2 s = .next (s.setEngine
            (e.emit s.cfg.table bytes m (operandText s.cfg.indirectRender mode byte1 byte2))))) := by
  unfold decodeAs decodeOperand
  cases he : s.engine with
  | none => exact .inl ⟨rfl, rfl⟩
  | some e =>
    refine .inr ⟨e, rfl, ?_⟩
    cases hs : e.est with
    | exhausted => exact .inl ⟨rfl, by simp [hs]⟩
    | decoding =>
      by_cases hn : e.prg.size - e.cursor < mode.len
      · exact .inr (.inl ⟨rfl, hn, by simp [hs, hn]⟩)
      · cases hb : e.prg.readBytes e.cursor mode.len with
        | none => exact .inr (.inr (.inl ⟨rfl, hn, rfl, by simp [hs, hn, hb]⟩))
        | some bytes => exact .inr (.inr (.inr ⟨rfl, hn, bytes, rfl, by simp [hs, hn, hb]⟩))

/-- The shared decode in a region with room for the instruction: it completes, with the record of R176. -/
theorem decodeAs_of_fits {m : Mnemonic} {mode : Mode} {byte1 byte2 : Byte} {s : State} {e : Engine}
    (he : s.engine = some e) (hd : e.est = .decoding) (hr : e.prg.isRegion) (hn : e.cursor + mode.len ≤ e.prg.size) :
    decodeAs m mode byte1 byte2 s = .next (s.setEngine
      (e.recorded s.cfg.table mode.len m (operandText s.cfg.indirectRender mode byte1 byte2))) := by
  have h1 : ¬ e.prg.size - e.cursor < mode.len := by omega
  simp only [decodeAs, he, hd, h1, if_false, hr.readBytes hn, decodeOperand, Engine.emit_eq_recorded hd hn]

/-! ### Decoding the bytes of a region -/

/-- The instruction of a row, where there is one, has the row's mnemonic and mode and the given operand bytes. -/
theorem ofRow_fields {m : Mnemonic} {mode : Mode} {operands : List Byte} {i : Instr}
    (h : Instr.ofRow m mode operands = some i) : i.mnemonic = m ∧ i.mode = mode ∧ i.operands = operands := by
  unfold Instr.ofRow at h
  split at h
  · unfold Instr.ofAccumulator at h; split at h <;> cases h <;> exact ⟨rfl, rfl, rfl⟩
  · unfold Instr.ofImplied at h; split at h <;> cases h <;> exact ⟨rfl, rfl, rfl⟩
  · unfold Instr.ofImmediate at h; split at h <;> cases h <;> exact ⟨rfl, rfl, rfl⟩
  · unfold Instr.ofZeropage at h; split at h <;> cases h <;> exact ⟨rfl, rfl, rfl⟩
  · unfold Instr.ofZeropageX at h; split at h <;> cases h <;> exact ⟨rfl, rfl, rfl⟩
  · unfold Instr.ofZeropageY at h; split at h <;> cases h <;> exact ⟨rfl, rfl, rfl⟩
  · unfold Instr.ofRelative at h; split at h <;> cases h <;> exact ⟨rfl, rfl, rfl⟩
  · unfold Instr.ofIndirectX at h; split at h <;> cases h <;> exact ⟨rfl, rfl, rfl⟩
  · unfold Instr.ofIndirectY at h; split at h <;> cases h <;> exact ⟨rfl, rfl, rfl⟩
  · unfold Instr.ofAbsolute at h; split at h <;> cases h <;> exact ⟨rfl, rfl, rfl⟩
  · unfold Instr.ofAbsoluteX at h; split at h <;> cases h <;> exact ⟨rfl, rfl, rfl⟩
  · unfold Instr.ofAbsoluteY at h; split at h <;> cases h <;> exact ⟨rfl, rfl, rfl⟩
  · unfold Instr.ofIndirect at h; split at h <;> cases h; exact ⟨rfl, rfl, rfl⟩
  · cases h

/-- Everything the decoder can answer. -/
theorem decode_cases (T : List Descriptor) (bs : List Byte) :
    (bs = [] ∧ decode T bs = .rejected .noByte) ∨
    ∃ b rest, bs = b :: rest ∧
      ((find T b = none ∧ decode T bs = .rejected (.unrecognised b)) ∨
       ∃ d, find T b = some d ∧
        ((bs.length < d.mode.len ∧ decode T bs = .rejected (.truncated d)) ∨
         (d.mode.len ≤ bs.length ∧
          ((∃ i, Instr.ofRow d.mnemonic d.mode (rest.take (d.mode.len - 1)) = some i ∧
              decode T bs = .instr i (rest.drop (d.mode.len - 1))) ∨
           (Instr.ofRow d.mnemonic d.mode (rest.take (d.mode.len - 1)) = none ∧
              decode T bs = .rejected (.noInstruction d)))))) := by
  cases bs with
  | nil => exact .inl ⟨rfl, rfl⟩
  | cons b rest =>
    refine .inr ⟨b, rest, rfl, ?_⟩
    simp only [decode]
    cases hf : find T b with
    | none => exact .inl ⟨rfl, rfl⟩
    | some d =>
      refine .inr ⟨d, rfl, ?_⟩
      by_cases hl : rest.length + 1 < d.mode.len
      · exact .inl ⟨by simpa using hl, by simp [hl]⟩
      · refine .inr ⟨by simpa using hl, ?_⟩
        cases hi : Instr.ofRow d.mnemonic d.mode (rest.take (d.mode.len - 1)) with
        | some i => exact .inl ⟨i, rfl, by simp [hl, hi]⟩
        | none => exact .inr ⟨rfl, by simp [hl, hi]⟩

/-! ### Exceptions -/

/-- Everything taking an exception does: a fatal error leaves only the configuration, the port and the failure value of
`CST`; a `DecodeError` moves the cursor on by one and changes nothing else. -/
theorem takeException_spec (x : Exn) (s : State) :
    (x = .load .ioError ∧ takeException x s = ⟨s.cfg, .failedIo, none, s.port⟩) ∨
    (∃ r, x = .load (.formatError r) ∧ takeException x s = ⟨s.cfg, .failedFormat, none, s.port⟩) ∨
    (x = .decodeError ∧ takeException x s = ⟨s.cfg, s.rom, s.engine.map (fun e => e.advance 1), s.port⟩) := by
  cases x with
  | load x =>
    cases x with
    | ioError => exact .inl ⟨rfl, rfl⟩
    | formatError r => exact .inr (.inl ⟨r, rfl, rfl⟩)
  | decodeError => exact .inr (.inr ⟨rfl, rfl⟩)

end Sys2Proof.Machine
end

