-- ==== Sys2Proof/Tests/Slice0.lean ====
section
/-! SUPPORT. The model's own tests. Every expected value is the spec's: 95_test_vectors.md (the vector is named), or the rule
named; and one theorem for each obligation that has hypotheses, giving a state and operands that meet them. -/

namespace Sys2Proof.Tests

open Sys2Proof Sys2Proof.Machine

set_option maxRecDepth 4000
set_option Elab.async false

/-! ### WellFormed refuses what is not well formed -/

/-- An instruction whose row the table does not have. -/
theorem test_wf_refuses_missing_row : ¬ (Instr.ldaImmediate 0x05).hasRow [] := by decide
/-- An instruction whose row is shadowed (41_instruction_table.md R163). -/
theorem test_wf_refuses_shadowed_sta : ¬ (Instr.staAbsoluteY 0x00 0x04).wf Config.default.table := by decide +kernel
theorem test_wf_refuses_shadowed_cmp : ¬ (Instr.cmpAbsoluteY 0x00 0x04).wf Config.default.table := by decide +kernel
theorem test_wf_accepts : (Instr.staZeropageX 0x00).wf Config.default.table := by decide +kernel
/-- A table with another number of rows, and one without the settled rows (R160). -/
theorem test_settled_refuses_short_table : ¬ Table.settled (Config.default.table.drop 1) := by decide +kernel
theorem test_settled_refuses_other_rows :
    ¬ Table.settled (List.replicate 151 ⟨0xa9, .lda, .zeropage, 2, .none⟩) := by decide +kernel
/-- One duplicate that is not the reported pair: neither as transcribed nor resolved (R160). -/
theorem test_settled_refuses_other_duplicate :
    ¬ Table.settled ((TableName.rows .canonical).dropLast ++ [⟨0x00, .tya, .implied, 2, .none⟩]) := by decide +kernel

/-! ### Small states -/

/-- A state with an engine on the given bytes, as `create` leaves it, under the given table. -/
def engineOn (n : TableName) (bs : List Byte) : State :=
  { State.reset with
    cfg := { Config.default with table := n.rows }
    engine := some (newEngine (Memory.ofBytes bs)) }

/-- The default table. -/
def dflt : TableName := .asTranscribed .zpxFirst

/-- The records, the cursor and the state flag after one step, where it answers a next state with an engine. -/
def after (s : State) : Option (List Line × Nat × Est) :=
  match stepEngine s with
  | .next t => t.engine.map (fun e => (e.lines, e.cursor, e.est))
  | .fault _ => none
  | .refused _ => none

/-- A vector of 95_test_vectors.md section 2.8: the bytes decode to the instruction, the instruction encodes to the bytes,
and one step of an engine on the bytes gives the line of the vector between the markers. -/
def vectorHolds (n : TableName) (v : List Byte × Instr × Text) : Bool :=
  decode n.rows v.1 == .instr v.2.1 [] && encode n.rows v.2.1 == v.1 &&
  match after (engineOn n v.1) with
  | some ([.lead, r, .trail o], c, .exhausted) =>
    render Config.default r == v.2.2 && o == v.1.length && c == v.1.length
  | _ => false

/-! ### One vector for every instruction (95_test_vectors.md section 2.8) -/

/-- The vectors of mode ACCUMULATOR. -/
def vectorsAccumulator : List (List Byte × Instr × Text) :=
  [([0x0a], .aslAccumulator,
      ['0', '0', '0', '0', ' ', '0', 'a', ' ', ' ', ' ', ' ', ' ', ' ', ' ', 'A', 'S', 'L', ' ', 'A']),
   ([0x4a], .lsrAccumulator,
      ['0', '0', '0', '0', ' ', '4', 'a', ' ', ' ', ' ', ' ', ' ', ' ', ' ', 'L', 'S', 'R', ' ', 'A']),
   ([0x2a], .rolAccumulator,
      ['0', '0', '0', '0', ' ', '2', 'a', ' ', ' ', ' ', ' ', ' ', ' ', ' ', 'R', 'O', 'L', ' ', 'A']),
   ([0x6a], .rorAccumulator,
      ['0', '0', '0', '0', ' ', '6', 'a', ' ', ' ', ' ', ' ', ' ', ' ', ' ', 'R', 'O', 'R', ' ', 'A'])]

theorem test_vectors_accumulator :
    vectorsAccumulator.all (vectorHolds dflt) = true := by decide +kernel

/-- The vectors of mode IMPLIED. -/
def vectorsImpliedA : List (List Byte × Instr × Text) :=
  [([0x00], .brkImplied,
      ['0', '0', '0', '0', ' ', '0', '0', ' ', ' ', ' ', ' ', ' ', ' ', ' ', 'B', 'R', 'K']),
   ([0x18], .clcImplied,
      ['0', '0', '0', '0', ' ', '1', '8', ' ', ' ', ' ', ' ', ' ', ' ', ' ', 'C', 'L', 'C']),
   ([0xd8], .cldImplied,
      ['0', '0', '0', '0', ' ', 'd', '8', ' ', ' ', ' ', ' ', ' ', ' ', ' ', 'C', 'L', 'D']),
   ([0x58], .cliImplied,
      ['0', '0', '0', '0', ' ', '5', '8', ' ', ' ', ' ', ' ', ' ', ' ', ' ', 'C', 'L', 'I']),
   ([0xb8], .clvImplied,
      ['0', '0', '0', '0', ' ', 'b', '8', ' ', ' ', ' ', ' ', ' ', ' ', ' ', 'C', 'L', 'V']),
   ([0xca], .dexImplied,
      ['0', '0', '0', '0', ' ', 'c', 'a', ' ', ' ', ' ', ' ', ' ', ' ', ' ', 'D', 'E', 'X']),
   ([0x88], .deyImplied,
      ['0', '0', '0', '0', ' ', '8', '8', ' ', ' ', ' ', ' ', ' ', ' ', ' ', 'D', 'E', 'Y']),
   ([0xe8], .inxImplied,
      ['0', '0', '0', '0', ' ', 'e', '8', ' ', ' ', ' ', ' ', ' ', ' ', ' ', 'I', 'N', 'X']),
   ([0xc8], .inyImplied,
      ['0', '0', '0', '0', ' ', 'c', '8', ' ', ' ', ' ', ' ', ' ', ' ', ' ', 'I', 'N', 'Y']),
   ([0xea], .nopImplied,
      ['0', '0', '0', '0', ' ', 'e', 'a', ' ', ' ', ' ', ' ', ' ', ' ', ' ', 'N', 'O', 'P']),
   ([0x48], .phaImplied,
      ['0', '0', '0', '0', ' ', '4', '8', ' ', ' ', ' ', ' ', ' ', ' ', ' ', 'P', 'H', 'A']),
   ([0x08], .phpImplied,
      ['0', '0', '0', '0', ' ', '0', '8', ' ', ' ', ' ', ' ', ' ', ' ', ' ', 'P', 'H', 'P'])]

/-- The vectors of mode IMPLIED. -/
def vectorsImpliedB : List (List Byte × Instr × Text) :=
  [([0x68], .plaImplied,
      ['0', '0', '0', '0', ' ', '6', '8', ' ', ' ', ' ', ' ', ' ', ' ', ' ', 'P', 'L', 'A']),
   ([0x28], .plpImplied,
      ['0', '0', '0', '0', ' ', '2', '8', ' ', ' ', ' ', ' ', ' ', ' ', ' ', 'P', 'L', 'P']),
   ([0x40], .rtiImplied,
      ['0', '0', '0', '0', ' ', '4', '0', ' ', ' ', ' ', ' ', ' ', ' ', ' ', 'R', 'T', 'I']),
   ([0x60], .rtsImplied,
      ['0', '0', '0', '0', ' ', '6', '0', ' ', ' ', ' ', ' ', ' ', ' ', ' ', 'R', 'T', 'S']),
   ([0x38], .secImplied,
      ['0', '0', '0', '0', ' ', '3', '8', ' ', ' ', ' ', ' ', ' ', ' ', ' ', 'S', 'E', 'C']),
   ([0xf8], .sedImplied,
      ['0', '0', '0', '0', ' ', 'f', '8', ' ', ' ', ' ', ' ', ' ', ' ', ' ', 'S', 'E', 'D']),
   ([0x78], .seiImplied,
      ['0', '0', '0', '0', ' ', '7', '8', ' ', ' ', ' ', ' ', ' ', ' ', ' ', 'S', 'E', 'I']),
   ([0xaa], .taxImplied,
      ['0', '0', '0', '0', ' ', 'a', 'a', ' ', ' ', ' ', ' ', ' ', ' ', ' ', 'T', 'A', 'X']),
   ([0xa8], .tayImplied,
      ['0', '0', '0', '0', ' ', 'a', '8', ' ', ' ', ' ', ' ', ' ', ' ', ' ', 'T', 'A', 'Y']),
   ([0xba], .tsxImplied,
      ['0', '0', '0', '0', ' ', 'b', 'a', ' ', ' ', ' ', ' ', ' ', ' ', ' ', 'T', 'S', 'X']),
   ([0x8a], .txaImplied,
      ['0', '0', '0', '0', ' ', '8', 'a', ' ', ' ', ' ', ' ', ' ', ' ', ' ', 'T', 'X', 'A']),
   ([0x9a], .txsImplied,
      ['0', '0', '0', '0', ' ', '9', 'a', ' ', ' ', ' ', ' ', ' ', ' ', ' ', 'T', 'X', 'S'])]

/-- The vectors of mode IMPLIED. -/
def vectorsImpliedC : List (List Byte × Instr × Text) :=
  [([0x98], .tyaImplied,
      ['0', '0', '0', '0', ' ', '9', '8', ' ', ' ', ' ', ' ', ' ', ' ', ' ', 'T', 'Y', 'A'])]

theorem test_vectors_implied :
    [vectorsImpliedA, vectorsImpliedB, vectorsImpliedC].flatten.all (vectorHolds dflt) = true := by decide +kernel

/-- The vectors of mode IMMEDIATE. -/
def vectorsImmediate : List (List Byte × Instr × Text) :=
  [([0x69, 0x00], .adcImmediate 0x00,
      ['0', '0', '0', '0', ' ', '6', '9', ' ', '0', '0', ' ', ' ', ' ', ' ', 'A', 'D', 'C', ' ', '#', '$', '0']),
   ([0x29, 0x05], .andImmediate 0x05,
      ['0', '0', '0', '0', ' ', '2', '9', ' ', '0', '5', ' ', ' ', ' ', ' ', 'A', 'N', 'D', ' ', '#', '$', '5']),
   ([0xc9, 0x05], .cmpImmediate 0x05,
      ['0', '0', '0', '0', ' ', 'c', '9', ' ', '0', '5', ' ', ' ', ' ', ' ', 'C', 'M', 'P', ' ', '#', '$', '5']),
   ([0xe0, 0x7f], .cpxImmediate 0x7f,
      ['0', '0', '0', '0', ' ', 'e', '0', ' ', '7', 'f', ' ', ' ', ' ', ' ', 'C', 'P', 'X', ' ', '#', '$', '7', 'f']),
   ([0xc0, 0x0a], .cpyImmediate 0x0a,
      ['0', '0', '0', '0', ' ', 'c', '0', ' ', '0', 'a', ' ', ' ', ' ', ' ', 'C', 'P', 'Y', ' ', '#', '$', 'a']),
   ([0x49, 0x00], .eorImmediate 0x00,
      ['0', '0', '0', '0', ' ', '4', '9', ' ', '0', '0', ' ', ' ', ' ', ' ', 'E', 'O', 'R', ' ', '#', '$', '0']),
   ([0xa9, 0x80], .ldaImmediate 0x80,
      ['0', '0', '0', '0', ' ', 'a', '9', ' ', '8', '0', ' ', ' ', ' ', ' ', 'L', 'D', 'A', ' ', '#', '$', '8', '0']),
   ([0xa2, 0xff], .ldxImmediate 0xff,
      ['0', '0', '0', '0', ' ', 'a', '2', ' ', 'f', 'f', ' ', ' ', ' ', ' ', 'L', 'D', 'X', ' ', '#', '$', 'f', 'f']),
   ([0xa0, 0x7f], .ldyImmediate 0x7f,
      ['0', '0', '0', '0', ' ', 'a', '0', ' ', '7', 'f', ' ', ' ', ' ', ' ', 'L', 'D', 'Y', ' ', '#', '$', '7', 'f']),
   ([0x09, 0x10], .oraImmediate 0x10,
      ['0', '0', '0', '0', ' ', '0', '9', ' ', '1', '0', ' ', ' ', ' ', ' ', 'O', 'R', 'A', ' ', '#', '$', '1', '0']),
   ([0xe9, 0x7f], .sbcImmediate 0x7f,
      ['0', '0', '0', '0', ' ', 'e', '9', ' ', '7', 'f', ' ', ' ', ' ', ' ', 'S', 'B', 'C', ' ', '#', '$', '7', 'f'])]

theorem test_vectors_immediate :
    vectorsImmediate.all (vectorHolds dflt) = true := by decide +kernel

/-- The vectors of mode ZEROPAGE. -/
def vectorsZeropageA : List (List Byte × Instr × Text) :=
  [([0x65, 0x05], .adcZeropage 0x05,
      ['0', '0', '0', '0', ' ', '6', '5', ' ', '0', '5', ' ', ' ', ' ', ' ', 'A', 'D', 'C', ' ', '$', '5']),
   ([0x25, 0x7f], .andZeropage 0x7f,
      ['0', '0', '0', '0', ' ', '2', '5', ' ', '7', 'f', ' ', ' ', ' ', ' ', 'A', 'N', 'D', ' ', '$', '7', 'f']),
   ([0x06, 0x80], .aslZeropage 0x80,
      ['0', '0', '0', '0', ' ', '0', '6', ' ', '8', '0', ' ', ' ', ' ', ' ', 'A', 'S', 'L', ' ', '$', '8', '0']),
   ([0x24, 0x80], .bitZeropage 0x80,
      ['0', '0', '0', '0', ' ', '2', '4', ' ', '8', '0', ' ', ' ', ' ', ' ', 'B', 'I', 'T', ' ', '$', '8', '0']),
   ([0xc5, 0x7f], .cmpZeropage 0x7f,
      ['0', '0', '0', '0', ' ', 'c', '5', ' ', '7', 'f', ' ', ' ', ' ', ' ', 'C', 'M', 'P', ' ', '$', '7', 'f']),
   ([0xe4, 0x80], .cpxZeropage 0x80,
      ['0', '0', '0', '0', ' ', 'e', '4', ' ', '8', '0', ' ', ' ', ' ', ' ', 'C', 'P', 'X', ' ', '$', '8', '0']),
   ([0xc4, 0x10], .cpyZeropage 0x10,
      ['0', '0', '0', '0', ' ', 'c', '4', ' ', '1', '0', ' ', ' ', ' ', ' ', 'C', 'P', 'Y', ' ', '$', '1', '0']),
   ([0xc6, 0x05], .decZeropage 0x05,
      ['0', '0', '0', '0', ' ', 'c', '6', ' ', '0', '5', ' ', ' ', ' ', ' ', 'D', 'E', 'C', ' ', '$', '5']),
   ([0x45, 0x05], .eorZeropage 0x05,
      ['0', '0', '0', '0', ' ', '4', '5', ' ', '0', '5', ' ', ' ', ' ', ' ', 'E', 'O', 'R', ' ', '$', '5']),
   ([0xe6, 0x05], .incZeropage 0x05,
      ['0', '0', '0', '0', ' ', 'e', '6', ' ', '0', '5', ' ', ' ', ' ', ' ', 'I', 'N', 'C', ' ', '$', '5']),
   ([0xa5, 0xff], .ldaZeropage 0xff,
      ['0', '0', '0', '0', ' ', 'a', '5', ' ', 'f', 'f', ' ', ' ', ' ', ' ', 'L', 'D', 'A', ' ', '$', 'f', 'f']),
   ([0xa6, 0x0a], .ldxZeropage 0x0a,
      ['0', '0', '0', '0', ' ', 'a', '6', ' ', '0', 'a', ' ', ' ', ' ', ' ', 'L', 'D', 'X', ' ', '$', 'a'])]

/-- The vectors of mode ZEROPAGE. -/
def vectorsZeropageB : List (List Byte × Instr × Text) :=
  [([0xa4, 0x80], .ldyZeropage 0x80,
      ['0', '0', '0', '0', ' ', 'a', '4', ' ', '8', '0', ' ', ' ', ' ', ' ', 'L', 'D', 'Y', ' ', '$', '8', '0']),
   ([0x46, 0x05], .lsrZeropage 0x05,
      ['0', '0', '0', '0', ' ', '4', '6', ' ', '0', '5', ' ', ' ', ' ', ' ', 'L', 'S', 'R', ' ', '$', '5']),
   ([0x05, 0x00], .oraZeropage 0x00,
      ['0', '0', '0', '0', ' ', '0', '5', ' ', '0', '0', ' ', ' ', ' ', ' ', 'O', 'R', 'A', ' ', '$', '0']),
   ([0x26, 0x0a], .rolZeropage 0x0a,
      ['0', '0', '0', '0', ' ', '2', '6', ' ', '0', 'a', ' ', ' ', ' ', ' ', 'R', 'O', 'L', ' ', '$', 'a']),
   ([0x66, 0x80], .rorZeropage 0x80,
      ['0', '0', '0', '0', ' ', '6', '6', ' ', '8', '0', ' ', ' ', ' ', ' ', 'R', 'O', 'R', ' ', '$', '8', '0']),
   ([0xe5, 0x80], .sbcZeropage 0x80,
      ['0', '0', '0', '0', ' ', 'e', '5', ' ', '8', '0', ' ', ' ', ' ', ' ', 'S', 'B', 'C', ' ', '$', '8', '0']),
   ([0x85, 0x10], .staZeropage 0x10,
      ['0', '0', '0', '0', ' ', '8', '5', ' ', '1', '0', ' ', ' ', ' ', ' ', 'S', 'T', 'A', ' ', '$', '1', '0']),
   ([0x86, 0x10], .stxZeropage 0x10,
      ['0', '0', '0', '0', ' ', '8', '6', ' ', '1', '0', ' ', ' ', ' ', ' ', 'S', 'T', 'X', ' ', '$', '1', '0']),
   ([0x84, 0x7f], .styZeropage 0x7f,
      ['0', '0', '0', '0', ' ', '8', '4', ' ', '7', 'f', ' ', ' ', ' ', ' ', 'S', 'T', 'Y', ' ', '$', '7', 'f'])]

theorem test_vectors_zeropage :
    [vectorsZeropageA, vectorsZeropageB].flatten.all (vectorHolds dflt) = true := by decide +kernel

/-- The vectors of mode ZEROPAGE_X. -/
def vectorsZeropageXA : List (List Byte × Instr × Text) :=
  [([0x75, 0x7f], .adcZeropageX 0x7f,
      ['0', '0', '0', '0', ' ', '7', '5', ' ', '7', 'f', ' ', ' ', ' ', ' ', 'A', 'D', 'C', ' ', '$', '7', 'f', ',', 'X']),
   ([0x35, 0x80], .andZeropageX 0x80,
      ['0', '0', '0', '0', ' ', '3', '5', ' ', '8', '0', ' ', ' ', ' ', ' ', 'A', 'N', 'D', ' ', '$', '8', '0', ',', 'X']),
   ([0x16, 0xff], .aslZeropageX 0xff,
      ['0', '0', '0', '0', ' ', '1', '6', ' ', 'f', 'f', ' ', ' ', ' ', ' ', 'A', 'S', 'L', ' ', '$', 'f', 'f', ',', 'X']),
   ([0xd9, 0x80], .cmpZeropageX 0x80,
      ['0', '0', '0', '0', ' ', 'd', '9', ' ', '8', '0', ' ', ' ', ' ', ' ', 'C', 'M', 'P', ' ', '$', '8', '0', ',', 'X']),
   ([0xd6, 0x7f], .decZeropageX 0x7f,
      ['0', '0', '0', '0', ' ', 'd', '6', ' ', '7', 'f', ' ', ' ', ' ', ' ', 'D', 'E', 'C', ' ', '$', '7', 'f', ',', 'X']),
   ([0x55, 0x7f], .eorZeropageX 0x7f,
      ['0', '0', '0', '0', ' ', '5', '5', ' ', '7', 'f', ' ', ' ', ' ', ' ', 'E', 'O', 'R', ' ', '$', '7', 'f', ',', 'X']),
   ([0xf6, 0x7f], .incZeropageX 0x7f,
      ['0', '0', '0', '0', ' ', 'f', '6', ' ', '7', 'f', ' ', ' ', ' ', ' ', 'I', 'N', 'C', ' ', '$', '7', 'f', ',', 'X']),
   ([0xb5, 0x0a], .ldaZeropageX 0x0a,
      ['0', '0', '0', '0', ' ', 'b', '5', ' ', '0', 'a', ' ', ' ', ' ', ' ', 'L', 'D', 'A', ' ', '$', 'a', ',', 'X']),
   ([0xb4, 0xff], .ldyZeropageX 0xff,
      ['0', '0', '0', '0', ' ', 'b', '4', ' ', 'f', 'f', ' ', ' ', ' ', ' ', 'L', 'D', 'Y', ' ', '$', 'f', 'f', ',', 'X']),
   ([0x56, 0x7f], .lsrZeropageX 0x7f,
      ['0', '0', '0', '0', ' ', '5', '6', ' ', '7', 'f', ' ', ' ', ' ', ' ', 'L', 'S', 'R', ' ', '$', '7', 'f', ',', 'X']),
   ([0x15, 0x05], .oraZeropageX 0x05,
      ['0', '0', '0', '0', ' ', '1', '5', ' ', '0', '5', ' ', ' ', ' ', ' ', 'O', 'R', 'A', ' ', '$', '5', ',', 'X']),
   ([0x36, 0x10], .rolZeropageX 0x10,
      ['0', '0', '0', '0', ' ', '3', '6', ' ', '1', '0', ' ', ' ', ' ', ' ', 'R', 'O', 'L', ' ', '$', '1', '0', ',', 'X'])]

/-- The vectors of mode ZEROPAGE_X. -/
def vectorsZeropageXB : List (List Byte × Instr × Text) :=
  [([0x76, 0xff], .rorZeropageX 0xff,
      ['0', '0', '0', '0', ' ', '7', '6', ' ', 'f', 'f', ' ', ' ', ' ', ' ', 'R', 'O', 'R', ' ', '$', 'f', 'f', ',', 'X']),
   ([0xf5, 0xff], .sbcZeropageX 0xff,
      ['0', '0', '0', '0', ' ', 'f', '5', ' ', 'f', 'f', ' ', ' ', ' ', ' ', 'S', 'B', 'C', ' ', '$', 'f', 'f', ',', 'X']),
   ([0x99, 0x00], .staZeropageX 0x00,
      ['0', '0', '0', '0', ' ', '9', '9', ' ', '0', '0', ' ', ' ', ' ', ' ', 'S', 'T', 'A', ' ', '$', '0', ',', 'X']),
   ([0x94, 0x80], .styZeropageX 0x80,
      ['0', '0', '0', '0', ' ', '9', '4', ' ', '8', '0', ' ', ' ', ' ', ' ', 'S', 'T', 'Y', ' ', '$', '8', '0', ',', 'X'])]

theorem test_vectors_zeropageX :
    [vectorsZeropageXA, vectorsZeropageXB].flatten.all (vectorHolds dflt) = true := by decide +kernel

/-- The vectors of mode ZEROPAGE_Y. -/
def vectorsZeropageY : List (List Byte × Instr × Text) :=
  [([0xb6, 0x10], .ldxZeropageY 0x10,
      ['0', '0', '0', '0', ' ', 'b', '6', ' ', '1', '0', ' ', ' ', ' ', ' ', 'L', 'D', 'X', ' ', '$', '1', '0', ',', 'Y']),
   ([0x96, 0x00], .stxZeropageY 0x00,
      ['0', '0', '0', '0', ' ', '9', '6', ' ', '0', '0', ' ', ' ', ' ', ' ', 'S', 'T', 'X', ' ', '$', '0', ',', 'Y'])]

theorem test_vectors_zeropageY :
    vectorsZeropageY.all (vectorHolds dflt) = true := by decide +kernel

/-- The vectors of mode RELATIVE. -/
def vectorsRelative : List (List Byte × Instr × Text) :=
  [([0x90, 0x00], .bccRelative 0x00,
      ['0', '0', '0', '0', ' ', '9', '0', ' ', '0', '0', ' ', ' ', ' ', ' ', 'B', 'C', 'C', ' ', '$', '0']),
   ([0xb0, 0x05], .bcsRelative 0x05,
      ['0', '0', '0', '0', ' ', 'b', '0', ' ', '0', '5', ' ', ' ', ' ', ' ', 'B', 'C', 'S', ' ', '$', '5']),
   ([0xf0, 0x7f], .beqRelative 0x7f,
      ['0', '0', '0', '0', ' ', 'f', '0', ' ', '7', 'f', ' ', ' ', ' ', ' ', 'B', 'E', 'Q', ' ', '$', '7', 'f']),
   ([0x30, 0x0a], .bmiRelative 0x0a,
      ['0', '0', '0', '0', ' ', '3', '0', ' ', '0', 'a', ' ', ' ', ' ', ' ', 'B', 'M', 'I', ' ', '$', 'a']),
   ([0xd0, 0x10], .bneRelative 0x10,
      ['0', '0', '0', '0', ' ', 'd', '0', ' ', '1', '0', ' ', ' ', ' ', ' ', 'B', 'N', 'E', ' ', '$', '1', '0']),
   ([0x10, 0x00], .bplRelative 0x00,
      ['0', '0', '0', '0', ' ', '1', '0', ' ', '0', '0', ' ', ' ', ' ', ' ', 'B', 'P', 'L', ' ', '$', '0']),
   ([0x50, 0x7f], .bvcRelative 0x7f,
      ['0', '0', '0', '0', ' ', '5', '0', ' ', '7', 'f', ' ', ' ', ' ', ' ', 'B', 'V', 'C', ' ', '$', '7', 'f']),
   ([0x70, 0x80], .bvsRelative 0x80,
      ['0', '0', '0', '0', ' ', '7', '0', ' ', '8', '0', ' ', ' ', ' ', ' ', 'B', 'V', 'S', ' ', '$', '8', '0'])]

theorem test_vectors_relative :
    vectorsRelative.all (vectorHolds dflt) = true := by decide +kernel

/-- The vectors of mode INDIRECT_X. -/
def vectorsIndirectX : List (List Byte × Instr × Text) :=
  [([0x61, 0x10], .adcIndirectX 0x10,
      ['0', '0', '0', '0', ' ', '6', '1', ' ', '1', '0', ' ', ' ', ' ', ' ', 'A', 'D', 'C', ' ', '(', '$', '1', '0', ',', 'X', ')']),
   ([0x21, 0x00], .andIndirectX 0x00,
      ['0', '0', '0', '0', ' ', '2', '1', ' ', '0', '0', ' ', ' ', ' ', ' ', 'A', 'N', 'D', ' ', '(', '$', '0', ',', 'X', ')']),
   ([0xc1, 0x00], .cmpIndirectX 0x00,
      ['0', '0', '0', '0', ' ', 'c', '1', ' ', '0', '0', ' ', ' ', ' ', ' ', 'C', 'M', 'P', ' ', '(', '$', '0', ',', 'X', ')']),
   ([0x41, 0x10], .eorIndirectX 0x10,
      ['0', '0', '0', '0', ' ', '4', '1', ' ', '1', '0', ' ', ' ', ' ', ' ', 'E', 'O', 'R', ' ', '(', '$', '1', '0', ',', 'X', ')']),
   ([0xa1, 0x7f], .ldaIndirectX 0x7f,
      ['0', '0', '0', '0', ' ', 'a', '1', ' ', '7', 'f', ' ', ' ', ' ', ' ', 'L', 'D', 'A', ' ', '(', '$', '7', 'f', ',', 'X', ')']),
   ([0x01, 0x0a], .oraIndirectX 0x0a,
      ['0', '0', '0', '0', ' ', '0', '1', ' ', '0', 'a', ' ', ' ', ' ', ' ', 'O', 'R', 'A', ' ', '(', '$', 'a', ',', 'X', ')']),
   ([0xe1, 0x05], .sbcIndirectX 0x05,
      ['0', '0', '0', '0', ' ', 'e', '1', ' ', '0', '5', ' ', ' ', ' ', ' ', 'S', 'B', 'C', ' ', '(', '$', '5', ',', 'X', ')']),
   ([0x81, 0xff], .staIndirectX 0xff,
      ['0', '0', '0', '0', ' ', '8', '1', ' ', 'f', 'f', ' ', ' ', ' ', ' ', 'S', 'T', 'A', ' ', '(', '$', 'f', 'f', ',', 'X', ')'])]

theorem test_vectors_indirectX :
    vectorsIndirectX.all (vectorHolds dflt) = true := by decide +kernel

/-- The vectors of mode INDIRECT_Y. -/
def vectorsIndirectY : List (List Byte × Instr × Text) :=
  [([0x71, 0x00], .adcIndirectY 0x00,
      ['0', '0', '0', '0', ' ', '7', '1', ' ', '0', '0', ' ', ' ', ' ', ' ', 'A', 'D', 'C', ' ', '(', '$', '0', ',', 'Y', ')']),
   ([0x31, 0x05], .andIndirectY 0x05,
      ['0', '0', '0', '0', ' ', '3', '1', ' ', '0', '5', ' ', ' ', ' ', ' ', 'A', 'N', 'D', ' ', '(', '$', '5', ',', 'Y', ')']),
   ([0xd1, 0x05], .cmpIndirectY 0x05,
      ['0', '0', '0', '0', ' ', 'd', '1', ' ', '0', '5', ' ', ' ', ' ', ' ', 'C', 'M', 'P', ' ', '(', '$', '5', ',', 'Y', ')']),
   ([0x51, 0x00], .eorIndirectY 0x00,
      ['0', '0', '0', '0', ' ', '5', '1', ' ', '0', '0', ' ', ' ', ' ', ' ', 'E', 'O', 'R', ' ', '(', '$', '0', ',', 'Y', ')']),
   ([0xb1, 0x80], .ldaIndirectY 0x80,
      ['0', '0', '0', '0', ' ', 'b', '1', ' ', '8', '0', ' ', ' ', ' ', ' ', 'L', 'D', 'A', ' ', '(', '$', '8', '0', ',', 'Y', ')']),
   ([0x11, 0x10], .oraIndirectY 0x10,
      ['0', '0', '0', '0', ' ', '1', '1', ' ', '1', '0', ' ', ' ', ' ', ' ', 'O', 'R', 'A', ' ', '(', '$', '1', '0', ',', 'Y', ')']),
   ([0xf1, 0x7f], .sbcIndirectY 0x7f,
      ['0', '0', '0', '0', ' ', 'f', '1', ' ', '7', 'f', ' ', ' ', ' ', ' ', 'S', 'B', 'C', ' ', '(', '$', '7', 'f', ',', 'Y', ')']),
   ([0x91, 0x0a], .staIndirectY 0x0a,
      ['0', '0', '0', '0', ' ', '9', '1', ' ', '0', 'a', ' ', ' ', ' ', ' ', 'S', 'T', 'A', ' ', '(', '$', 'a', ',', 'Y', ')'])]

theorem test_vectors_indirectY :
    vectorsIndirectY.all (vectorHolds dflt) = true := by decide +kernel

/-- The vectors of mode ABSOLUTE. -/
def vectorsAbsoluteA : List (List Byte × Instr × Text) :=
  [([0x6d, 0x80, 0x01], .adcAbsolute 0x80 0x01,
      ['0', '0', '0', '0', ' ', '6', 'd', ' ', '8', '0', ' ', '0', '1', ' ', 'A', 'D', 'C', ' ', '$', '1', '8', '0']),
   ([0x2d, 0xff, 0x80], .andAbsolute 0xff 0x80,
      ['0', '0', '0', '0', ' ', '2', 'd', ' ', 'f', 'f', ' ', '8', '0', ' ', 'A', 'N', 'D', ' ', '$', '8', '0', 'f', 'f']),
   ([0x0e, 0x0a, 0x12], .aslAbsolute 0x0a 0x12,
      ['0', '0', '0', '0', ' ', '0', 'e', ' ', '0', 'a', ' ', '1', '2', ' ', 'A', 'S', 'L', ' ', '$', '1', '2', '0', 'a']),
   ([0x2c, 0xff, 0x00], .bitAbsolute 0xff 0x00,
      ['0', '0', '0', '0', ' ', '2', 'c', ' ', 'f', 'f', ' ', '0', '0', ' ', 'B', 'I', 'T', ' ', '$', 'f', 'f']),
   ([0xcd, 0xff, 0x12], .cmpAbsolute 0xff 0x12,
      ['0', '0', '0', '0', ' ', 'c', 'd', ' ', 'f', 'f', ' ', '1', '2', ' ', 'C', 'M', 'P', ' ', '$', '1', '2', 'f', 'f']),
   ([0xec, 0xff, 0x80], .cpxAbsolute 0xff 0x80,
      ['0', '0', '0', '0', ' ', 'e', 'c', ' ', 'f', 'f', ' ', '8', '0', ' ', 'C', 'P', 'X', ' ', '$', '8', '0', 'f', 'f']),
   ([0xcc, 0x00, 0x12], .cpyAbsolute 0x00 0x12,
      ['0', '0', '0', '0', ' ', 'c', 'c', ' ', '0', '0', ' ', '1', '2', ' ', 'C', 'P', 'Y', ' ', '$', '1', '2', '0', '0']),
   ([0xce, 0x80, 0xff], .decAbsolute 0x80 0xff,
      ['0', '0', '0', '0', ' ', 'c', 'e', ' ', '8', '0', ' ', 'f', 'f', ' ', 'D', 'E', 'C', ' ', '$', 'f', 'f', '8', '0']),
   ([0x4d, 0x80, 0x12], .eorAbsolute 0x80 0x12,
      ['0', '0', '0', '0', ' ', '4', 'd', ' ', '8', '0', ' ', '1', '2', ' ', 'E', 'O', 'R', ' ', '$', '1', '2', '8', '0']),
   ([0xee, 0x80, 0x80], .incAbsolute 0x80 0x80,
      ['0', '0', '0', '0', ' ', 'e', 'e', ' ', '8', '0', ' ', '8', '0', ' ', 'I', 'N', 'C', ' ', '$', '8', '0', '8', '0']),
   ([0x4c, 0x00, 0x00], .jmpAbsolute 0x00 0x00,
      ['0', '0', '0', '0', ' ', '4', 'c', ' ', '0', '0', ' ', '0', '0', ' ', 'J', 'M', 'P', ' ', '$', '0']),
   ([0x20, 0x7f, 0xff], .jsrAbsolute 0x7f 0xff,
      ['0', '0', '0', '0', ' ', '2', '0', ' ', '7', 'f', ' ', 'f', 'f', ' ', 'J', 'S', 'R', ' ', '$', 'f', 'f', '7', 'f'])]

/-- The vectors of mode ABSOLUTE. -/
def vectorsAbsoluteB : List (List Byte × Instr × Text) :=
  [([0xad, 0x10, 0x80], .ldaAbsolute 0x10 0x80,
      ['0', '0', '0', '0', ' ', 'a', 'd', ' ', '1', '0', ' ', '8', '0', ' ', 'L', 'D', 'A', ' ', '$', '8', '0', '1', '0']),
   ([0xae, 0x00, 0x12], .ldxAbsolute 0x00 0x12,
      ['0', '0', '0', '0', ' ', 'a', 'e', ' ', '0', '0', ' ', '1', '2', ' ', 'L', 'D', 'X', ' ', '$', '1', '2', '0', '0']),
   ([0xac, 0x0a, 0x12], .ldyAbsolute 0x0a 0x12,
      ['0', '0', '0', '0', ' ', 'a', 'c', ' ', '0', 'a', ' ', '1', '2', ' ', 'L', 'D', 'Y', ' ', '$', '1', '2', '0', 'a']),
   ([0x4e, 0x80, 0x12], .lsrAbsolute 0x80 0x12,
      ['0', '0', '0', '0', ' ', '4', 'e', ' ', '8', '0', ' ', '1', '2', ' ', 'L', 'S', 'R', ' ', '$', '1', '2', '8', '0']),
   ([0x0d, 0x7f, 0x00], .oraAbsolute 0x7f 0x00,
      ['0', '0', '0', '0', ' ', '0', 'd', ' ', '7', 'f', ' ', '0', '0', ' ', 'O', 'R', 'A', ' ', '$', '7', 'f']),
   ([0x2e, 0x00, 0xff], .rolAbsolute 0x00 0xff,
      ['0', '0', '0', '0', ' ', '2', 'e', ' ', '0', '0', ' ', 'f', 'f', ' ', 'R', 'O', 'L', ' ', '$', 'f', 'f', '0', '0']),
   ([0x6e, 0x0a, 0xff], .rorAbsolute 0x0a 0xff,
      ['0', '0', '0', '0', ' ', '6', 'e', ' ', '0', 'a', ' ', 'f', 'f', ' ', 'R', 'O', 'R', ' ', '$', 'f', 'f', '0', 'a']),
   ([0xed, 0x0a, 0x12], .sbcAbsolute 0x0a 0x12,
      ['0', '0', '0', '0', ' ', 'e', 'd', ' ', '0', 'a', ' ', '1', '2', ' ', 'S', 'B', 'C', ' ', '$', '1', '2', '0', 'a']),
   ([0x8d, 0x05, 0x12], .staAbsolute 0x05 0x12,
      ['0', '0', '0', '0', ' ', '8', 'd', ' ', '0', '5', ' ', '1', '2', ' ', 'S', 'T', 'A', ' ', '$', '1', '2', '0', '5']),
   ([0x8e, 0x05, 0x80], .stxAbsolute 0x05 0x80,
      ['0', '0', '0', '0', ' ', '8', 'e', ' ', '0', '5', ' ', '8', '0', ' ', 'S', 'T', 'X', ' ', '$', '8', '0', '0', '5']),
   ([0x8c, 0xff, 0x12], .styAbsolute 0xff 0x12,
      ['0', '0', '0', '0', ' ', '8', 'c', ' ', 'f', 'f', ' ', '1', '2', ' ', 'S', 'T', 'Y', ' ', '$', '1', '2', 'f', 'f'])]

theorem test_vectors_absolute :
    [vectorsAbsoluteA, vectorsAbsoluteB].flatten.all (vectorHolds dflt) = true := by decide +kernel

/-- The vectors of mode ABSOLUTE_X. -/
def vectorsAbsoluteXA : List (List Byte × Instr × Text) :=
  [([0x7d, 0xff, 0x12], .adcAbsoluteX 0xff 0x12,
      ['0', '0', '0', '0', ' ', '7', 'd', ' ', 'f', 'f', ' ', '1', '2', ' ', 'A', 'D', 'C', ' ', '$', '1', '2', 'f', 'f', ',', 'X']),
   ([0x3d, 0x0a, 0xff], .andAbsoluteX 0x0a 0xff,
      ['0', '0', '0', '0', ' ', '3', 'd', ' ', '0', 'a', ' ', 'f', 'f', ' ', 'A', 'N', 'D', ' ', '$', 'f', 'f', '0', 'a', ',', 'X']),
   ([0x1e, 0x10, 0x00], .aslAbsoluteX 0x10 0x00,
      ['0', '0', '0', '0', ' ', '1', 'e', ' ', '1', '0', ' ', '0', '0', ' ', 'A', 'S', 'L', ' ', '$', '1', '0', ',', 'X']),
   ([0xdd, 0x0a, 0x00], .cmpAbsoluteX 0x0a 0x00,
      ['0', '0', '0', '0', ' ', 'd', 'd', ' ', '0', 'a', ' ', '0', '0', ' ', 'C', 'M', 'P', ' ', '$', 'a', ',', 'X']),
   ([0xde, 0xff, 0x01], .decAbsoluteX 0xff 0x01,
      ['0', '0', '0', '0', ' ', 'd', 'e', ' ', 'f', 'f', ' ', '0', '1', ' ', 'D', 'E', 'C', ' ', '$', '1', 'f', 'f', ',', 'X']),
   ([0x5d, 0xff, 0x00], .eorAbsoluteX 0xff 0x00,
      ['0', '0', '0', '0', ' ', '5', 'd', ' ', 'f', 'f', ' ', '0', '0', ' ', 'E', 'O', 'R', ' ', '$', 'f', 'f', ',', 'X']),
   ([0xfe, 0xff, 0xff], .incAbsoluteX 0xff 0xff,
      ['0', '0', '0', '0', ' ', 'f', 'e', ' ', 'f', 'f', ' ', 'f', 'f', ' ', 'I', 'N', 'C', ' ', '$', 'f', 'f', 'f', 'f', ',', 'X']),
   ([0xbd, 0x00, 0xff], .ldaAbsoluteX 0x00 0xff,
      ['0', '0', '0', '0', ' ', 'b', 'd', ' ', '0', '0', ' ', 'f', 'f', ' ', 'L', 'D', 'A', ' ', '$', 'f', 'f', '0', '0', ',', 'X']),
   ([0xbc, 0x10, 0x00], .ldyAbsoluteX 0x10 0x00,
      ['0', '0', '0', '0', ' ', 'b', 'c', ' ', '1', '0', ' ', '0', '0', ' ', 'L', 'D', 'Y', ' ', '$', '1', '0', ',', 'X']),
   ([0x5e, 0xff, 0x00], .lsrAbsoluteX 0xff 0x00,
      ['0', '0', '0', '0', ' ', '5', 'e', ' ', 'f', 'f', ' ', '0', '0', ' ', 'L', 'S', 'R', ' ', '$', 'f', 'f', ',', 'X']),
   ([0x1d, 0x80, 0x80], .oraAbsoluteX 0x80 0x80,
      ['0', '0', '0', '0', ' ', '1', 'd', ' ', '8', '0', ' ', '8', '0', ' ', 'O', 'R', 'A', ' ', '$', '8', '0', '8', '0', ',', 'X']),
   ([0x3e, 0x05, 0x01], .rolAbsoluteX 0x05 0x01,
      ['0', '0', '0', '0', ' ', '3', 'e', ' ', '0', '5', ' ', '0', '1', ' ', 'R', 'O', 'L', ' ', '$', '1', '0', '5', ',', 'X'])]

/-- The vectors of mode ABSOLUTE_X. -/
def vectorsAbsoluteXB : List (List Byte × Instr × Text) :=
  [([0x7e, 0x10, 0x01], .rorAbsoluteX 0x10 0x01,
      ['0', '0', '0', '0', ' ', '7', 'e', ' ', '1', '0', ' ', '0', '1', ' ', 'R', 'O', 'R', ' ', '$', '1', '1', '0', ',', 'X']),
   ([0xfd, 0x10, 0x00], .sbcAbsoluteX 0x10 0x00,
      ['0', '0', '0', '0', ' ', 'f', 'd', ' ', '1', '0', ' ', '0', '0', ' ', 'S', 'B', 'C', ' ', '$', '1', '0', ',', 'X']),
   ([0x9d, 0x7f, 0x00], .staAbsoluteX 0x7f 0x00,
      ['0', '0', '0', '0', ' ', '9', 'd', ' ', '7', 'f', ' ', '0', '0', ' ', 'S', 'T', 'A', ' ', '$', '7', 'f', ',', 'X'])]

theorem test_vectors_absoluteX :
    [vectorsAbsoluteXA, vectorsAbsoluteXB].flatten.all (vectorHolds dflt) = true := by decide +kernel

/-- The vectors of mode ABSOLUTE_Y. -/
def vectorsAbsoluteY : List (List Byte × Instr × Text) :=
  [([0x79, 0x0a, 0x00], .adcAbsoluteY 0x0a 0x00,
      ['0', '0', '0', '0', ' ', '7', '9', ' ', '0', 'a', ' ', '0', '0', ' ', 'A', 'D', 'C', ' ', '$', 'a', ',', 'Y']),
   ([0x39, 0x10, 0x01], .andAbsoluteY 0x10 0x01,
      ['0', '0', '0', '0', ' ', '3', '9', ' ', '1', '0', ' ', '0', '1', ' ', 'A', 'N', 'D', ' ', '$', '1', '1', '0', ',', 'Y']),
   ([0x59, 0x0a, 0x80], .eorAbsoluteY 0x0a 0x80,
      ['0', '0', '0', '0', ' ', '5', '9', ' ', '0', 'a', ' ', '8', '0', ' ', 'E', 'O', 'R', ' ', '$', '8', '0', '0', 'a', ',', 'Y']),
   ([0xb9, 0x05, 0x01], .ldaAbsoluteY 0x05 0x01,
      ['0', '0', '0', '0', ' ', 'b', '9', ' ', '0', '5', ' ', '0', '1', ' ', 'L', 'D', 'A', ' ', '$', '1', '0', '5', ',', 'Y']),
   ([0xbe, 0x05, 0x00], .ldxAbsoluteY 0x05 0x00,
      ['0', '0', '0', '0', ' ', 'b', 'e', ' ', '0', '5', ' ', '0', '0', ' ', 'L', 'D', 'X', ' ', '$', '5', ',', 'Y']),
   ([0x19, 0xff, 0xff], .oraAbsoluteY 0xff 0xff,
      ['0', '0', '0', '0', ' ', '1', '9', ' ', 'f', 'f', ' ', 'f', 'f', ' ', 'O', 'R', 'A', ' ', '$', 'f', 'f', 'f', 'f', ',', 'Y']),
   ([0xf9, 0x00, 0x80], .sbcAbsoluteY 0x00 0x80,
      ['0', '0', '0', '0', ' ', 'f', '9', ' ', '0', '0', ' ', '8', '0', ' ', 'S', 'B', 'C', ' ', '$', '8', '0', '0', '0', ',', 'Y'])]

theorem test_vectors_absoluteY :
    vectorsAbsoluteY.all (vectorHolds dflt) = true := by decide +kernel

/-- The vectors of mode ABSOLUTE_Y that the default table shadows, under `ABSY_FIRST`. -/
def vectorsAbsoluteYShadowed : List (List Byte × Instr × Text) :=
  [([0xd9, 0x10, 0x80], .cmpAbsoluteY 0x10 0x80,
      ['0', '0', '0', '0', ' ', 'd', '9', ' ', '1', '0', ' ', '8', '0', ' ', 'C', 'M', 'P', ' ', '$', '8', '0', '1', '0', ',', 'Y']),
   ([0x99, 0x80, 0x80], .staAbsoluteY 0x80 0x80,
      ['0', '0', '0', '0', ' ', '9', '9', ' ', '8', '0', ' ', '8', '0', ' ', 'S', 'T', 'A', ' ', '$', '8', '0', '8', '0', ',', 'Y'])]

theorem test_vectors_absoluteYShadowed :
    vectorsAbsoluteYShadowed.all (vectorHolds (.asTranscribed .absyFirst)) = true := by decide +kernel

theorem test_vectors_absoluteY_canonical : vectorsAbsoluteYShadowed.all (vectorHolds .canonical) = true := by decide +kernel

/-- The vectors of mode INDIRECT. -/
def vectorsIndirect : List (List Byte × Instr × Text) :=
  [([0x6c, 0x05, 0x80], .jmpIndirect 0x05 0x80,
      ['0', '0', '0', '0', ' ', '6', 'c', ' ', '0', '5', ' ', '8', '0', ' ', 'J', 'M', 'P', ' ', '(', '$', '5', ')'])]

theorem test_vectors_indirect :
    vectorsIndirect.all (vectorHolds dflt) = true := by decide +kernel

/-! ### The opcode map (30_encoding.md R97) -/

/-- The row of R97 for the high nibble 0. -/
def opcodeRow0 : List (Option (Mnemonic × Mode)) :=
  [some (.brk, .implied), some (.ora, .indirectX), none, none,
   none, some (.ora, .zeropage), some (.asl, .zeropage), none,
   some (.php, .implied), some (.ora, .immediate), some (.asl, .accumulator), none,
   none, some (.ora, .absolute), some (.asl, .absolute), none]

/-- The row of R97 for the high nibble 1. -/
def opcodeRow1 : List (Option (Mnemonic × Mode)) :=
  [some (.bpl, .relative), some (.ora, .indirectY), none, none,
   none, some (.ora, .zeropageX), some (.asl, .zeropageX), none,
   some (.clc, .implied), some (.ora, .absoluteY), none, none,
   none, some (.ora, .absoluteX), some (.asl, .absoluteX), none]

/-- The row of R97 for the high nibble 2. -/
def opcodeRow2 : List (Option (Mnemonic × Mode)) :=
  [some (.jsr, .absolute), some (.and, .indirectX), none, none,
   some (.bit, .zeropage), some (.and, .zeropage), some (.rol, .zeropage), none,
   some (.plp, .implied), some (.and, .immediate), some (.rol, .accumulator), none,
   some (.bit, .absolute), some (.and, .absolute), some (.rol, .absolute), none]

/-- The row of R97 for the high nibble 3. -/
def opcodeRow3 : List (Option (Mnemonic × Mode)) :=
  [some (.bmi, .relative), some (.and, .indirectY), none, none,
   none, some (.and, .zeropageX), some (.rol, .zeropageX), none,
   some (.sec, .implied), some (.and, .absoluteY), none, none,
   none, some (.and, .absoluteX), some (.rol, .absoluteX), none]

/-- The row of R97 for the high nibble 4. -/
def opcodeRow4 : List (Option (Mnemonic × Mode)) :=
  [some (.rti, .implied), some (.eor, .indirectX), none, none,
   none, some (.eor, .zeropage), some (.lsr, .zeropage), none,
   some (.pha, .implied), some (.eor, .immediate), some (.lsr, .accumulator), none,
   some (.jmp, .absolute), some (.eor, .absolute), some (.lsr, .absolute), none]

/-- The row of R97 for the high nibble 5. -/
def opcodeRow5 : List (Option (Mnemonic × Mode)) :=
  [some (.bvc, .relative), some (.eor, .indirectY), none, none,
   none, some (.eor, .zeropageX), some (.lsr, .zeropageX), none,
   some (.cli, .implied), some (.eor, .absoluteY), none, none,
   none, some (.eor, .absoluteX), some (.lsr, .absoluteX), none]

/-- The row of R97 for the high nibble 6. -/
def opcodeRow6 : List (Option (Mnemonic × Mode)) :=
  [some (.rts, .implied), some (.adc, .indirectX), none, none,
   none, some (.adc, .zeropage), some (.ror, .zeropage), none,
   some (.pla, .implied), some (.adc, .immediate), some (.ror, .accumulator), none,
   some (.jmp, .indirect), some (.adc, .absolute), some (.ror, .absolute), none]

/-- The row of R97 for the high nibble 7. -/
def opcodeRow7 : List (Option (Mnemonic × Mode)) :=
  [some (.bvs, .relative), some (.adc, .indirectY), none, none,
   none, some (.adc, .zeropageX), some (.ror, .zeropageX), none,
   some (.sei, .implied), some (.adc, .absoluteY), none, none,
   none, some (.adc, .absoluteX), some (.ror, .absoluteX), none]

/-- The row of R97 for the high nibble 8. -/
def opcodeRow8 : List (Option (Mnemonic × Mode)) :=
  [none, some (.sta, .indirectX), none, none,
   some (.sty, .zeropage), some (.sta, .zeropage), some (.stx, .zeropage), none,
   some (.dey, .implied), none, some (.txa, .implied), none,
   some (.sty, .absolute), some (.sta, .absolute), some (.stx, .absolute), none]

/-- The row of R97 for the high nibble 9. -/
def opcodeRow9 : List (Option (Mnemonic × Mode)) :=
  [some (.bcc, .relative), some (.sta, .indirectY), none, none,
   some (.sty, .zeropageX), none, some (.stx, .zeropageY), none,
   some (.tya, .implied), some (.sta, .zeropageX), some (.txs, .implied), none,
   none, some (.sta, .absoluteX), none, none]

/-- The row of R97 for the high nibble a. -/
def opcodeRowA : List (Option (Mnemonic × Mode)) :=
  [some (.ldy, .immediate), some (.lda, .indirectX), some (.ldx, .immediate), none,
   some (.ldy, .zeropage), some (.lda, .zeropage), some (.ldx, .zeropage), none,
   some (.tay, .implied), some (.lda, .immediate), some (.tax, .implied), none,
   some (.ldy, .absolute), some (.lda, .absolute), some (.ldx, .absolute), none]

/-- The row of R97 for the high nibble b. -/
def opcodeRowB : List (Option (Mnemonic × Mode)) :=
  [some (.bcs, .relative), some (.lda, .indirectY), none, none,
   some (.ldy, .zeropageX), some (.lda, .zeropageX), some (.ldx, .zeropageY), none,
   some (.clv, .implied), some (.lda, .absoluteY), some (.tsx, .implied), none,
   some (.ldy, .absoluteX), some (.lda, .absoluteX), some (.ldx, .absoluteY), none]

/-- The row of R97 for the high nibble c. -/
def opcodeRowC : List (Option (Mnemonic × Mode)) :=
  [some (.cpy, .immediate), some (.cmp, .indirectX), none, none,
   some (.cpy, .zeropage), some (.cmp, .zeropage), some (.dec, .zeropage), none,
   some (.iny, .implied), some (.cmp, .immediate), some (.dex, .implied), none,
   some (.cpy, .absolute), some (.cmp, .absolute), some (.dec, .absolute), none]

/-- The row of R97 for the high nibble d. -/
def opcodeRowD : List (Option (Mnemonic × Mode)) :=
  [some (.bne, .relative), some (.cmp, .indirectY), none, none,
   none, none, some (.dec, .zeropageX), none,
   some (.cld, .implied), some (.cmp, .zeropageX), none, none,
   none, some (.cmp, .absoluteX), some (.dec, .absoluteX), none]

/-- The row of R97 for the high nibble e. -/
def opcodeRowE : List (Option (Mnemonic × Mode)) :=
  [some (.cpx, .immediate), some (.sbc, .indirectX), none, none,
   some (.cpx, .zeropage), some (.sbc, .zeropage), some (.inc, .zeropage), none,
   some (.inx, .implied), some (.sbc, .immediate), some (.nop, .implied), none,
   some (.cpx, .absolute), some (.sbc, .absolute), some (.inc, .absolute), none]

/-- The row of R97 for the high nibble f. -/
def opcodeRowF : List (Option (Mnemonic × Mode)) :=
  [some (.beq, .relative), some (.sbc, .indirectY), none, none,
   none, some (.sbc, .zeropageX), some (.inc, .zeropageX), none,
   some (.sed, .implied), some (.sbc, .absoluteY), none, none,
   none, some (.sbc, .absoluteX), some (.inc, .absoluteX), none]

theorem test_opcode_map :
    (List.range 256).map (fun b => (find Config.default.table (BitVec.ofNat 8 b)).map (fun d => (d.mnemonic, d.mode))) =
      [opcodeRow0, opcodeRow1, opcodeRow2, opcodeRow3, opcodeRow4, opcodeRow5, opcodeRow6, opcodeRow7, opcodeRow8,
       opcodeRow9, opcodeRowA, opcodeRowB, opcodeRowC, opcodeRowD, opcodeRowE, opcodeRowF].flatten := by decide +kernel

/-! ### `decode(mode, byte1, byte2)` (95_test_vectors.md 2.1, V1 to V27; `-` is written as 0) -/

theorem test_decode_operand_len1_len2 :
    [decodeOperand .oneByte .accumulator 0x00 0x00 == (1, ['A']),
     decodeOperand .combine .accumulator 0x00 0x00 == (1, ['A']),
     decodeOperand .oneByte .implied 0x00 0x00 == (1, []),
     decodeOperand .combine .implied 0x00 0x00 == (1, []),
     decodeOperand .oneByte .immediate 0x05 0x00 == (2, ['#', '$', '5']),
     decodeOperand .combine .immediate 0x05 0x00 == (2, ['#', '$', '5']),
     decodeOperand .oneByte .immediate 0x00 0x00 == (2, ['#', '$', '0']),
     decodeOperand .combine .immediate 0x00 0x00 == (2, ['#', '$', '0']),
     decodeOperand .oneByte .immediate 0xff 0x00 == (2, ['#', '$', 'f', 'f']),
     decodeOperand .combine .immediate 0xff 0x00 == (2, ['#', '$', 'f', 'f']),
     decodeOperand .oneByte .zeropage 0x0a 0x00 == (2, ['$', 'a']),
     decodeOperand .combine .zeropage 0x0a 0x00 == (2, ['$', 'a']),
     decodeOperand .oneByte .zeropage 0x10 0x00 == (2, ['$', '1', '0']),
     decodeOperand .combine .zeropage 0x10 0x00 == (2, ['$', '1', '0']),
     decodeOperand .oneByte .zeropageX 0x80 0x00 == (2, ['$', '8', '0', ',', 'X']),
     decodeOperand .combine .zeropageX 0x80 0x00 == (2, ['$', '8', '0', ',', 'X']),
     decodeOperand .oneByte .zeropageY 0x00 0x00 == (2, ['$', '0', ',', 'Y']),
     decodeOperand .combine .zeropageY 0x00 0x00 == (2, ['$', '0', ',', 'Y']),
     decodeOperand .oneByte .relative 0xfe 0x00 == (2, ['$', 'f', 'e']),
     decodeOperand .combine .relative 0xfe 0x00 == (2, ['$', 'f', 'e']),
     decodeOperand .oneByte .relative 0x00 0x00 == (2, ['$', '0']),
     decodeOperand .combine .relative 0x00 0x00 == (2, ['$', '0']),
     decodeOperand .oneByte .relative 0x7f 0x00 == (2, ['$', '7', 'f']),
     decodeOperand .combine .relative 0x7f 0x00 == (2, ['$', '7', 'f']),
     decodeOperand .oneByte .relative 0x80 0x00 == (2, ['$', '8', '0']),
     decodeOperand .combine .relative 0x80 0x00 == (2, ['$', '8', '0']),
     decodeOperand .oneByte .indirectX 0x20 0x00 == (2, ['(', '$', '2', '0', ',', 'X', ')']),
     decodeOperand .combine .indirectX 0x20 0x00 == (2, ['(', '$', '2', '0', ',', 'X', ')']),
     decodeOperand .oneByte .indirectY 0x20 0x00 == (2, ['(', '$', '2', '0', ',', 'Y', ')']),
     decodeOperand .combine .indirectY 0x20 0x00 == (2, ['(', '$', '2', '0', ',', 'Y', ')'])].all id = true := by decide +kernel

theorem test_decode_operand_len3 :
    [decodeOperand .oneByte .absolute 0x00 0x80 == (3, ['$', '8', '0', '0', '0']),
     decodeOperand .combine .absolute 0x00 0x80 == (3, ['$', '8', '0', '0', '0']),
     decodeOperand .oneByte .absolute 0x00 0x00 == (3, ['$', '0']),
     decodeOperand .combine .absolute 0x00 0x00 == (3, ['$', '0']),
     decodeOperand .oneByte .absolute 0x05 0x00 == (3, ['$', '5']),
     decodeOperand .combine .absolute 0x05 0x00 == (3, ['$', '5']),
     decodeOperand .oneByte .absolute 0xff 0xff == (3, ['$', 'f', 'f', 'f', 'f']),
     decodeOperand .combine .absolute 0xff 0xff == (3, ['$', 'f', 'f', 'f', 'f']),
     decodeOperand .oneByte .absolute 0x34 0x12 == (3, ['$', '1', '2', '3', '4']),
     decodeOperand .combine .absolute 0x34 0x12 == (3, ['$', '1', '2', '3', '4']),
     decodeOperand .oneByte .absolute 0x00 0x01 == (3, ['$', '1', '0', '0']),
     decodeOperand .combine .absolute 0x00 0x01 == (3, ['$', '1', '0', '0']),
     decodeOperand .oneByte .absoluteX 0x00 0x02 == (3, ['$', '2', '0', '0', ',', 'X']),
     decodeOperand .combine .absoluteX 0x00 0x02 == (3, ['$', '2', '0', '0', ',', 'X']),
     decodeOperand .oneByte .absoluteY 0xff 0x00 == (3, ['$', 'f', 'f', ',', 'Y']),
     decodeOperand .combine .absoluteY 0xff 0x00 == (3, ['$', 'f', 'f', ',', 'Y']),
     decodeOperand .oneByte .indirect 0x34 0x12 == (3, ['(', '$', '3', '4', ')']),
     decodeOperand .combine .indirect 0x34 0x12 == (3, ['(', '$', '1', '2', '3', '4', ')']),
     decodeOperand .oneByte .indirect 0x00 0xff == (3, ['(', '$', '0', ')']),
     decodeOperand .combine .indirect 0x00 0xff == (3, ['(', '$', 'f', 'f', '0', '0', ')'])].all id = true := by decide +kernel

/-! ### `find` (95_test_vectors.md 2.2, V28 to V46) -/

/-- What `find` gives, by mnemonic and mode. -/
def found (n : TableName) (b : Byte) : Option (Mnemonic × Mode) := (find n.rows b).map (fun d => (d.mnemonic, d.mode))

theorem test_find_settled_and_duplicates :
    [found dflt 0xa9 == some (.lda, .immediate),
     found (.asTranscribed .absyFirst) 0xa9 == some (.lda, .immediate),
     found .canonical 0xa9 == some (.lda, .immediate),
     found dflt 0x4c == some (.jmp, .absolute),
     found (.asTranscribed .absyFirst) 0x4c == some (.jmp, .absolute),
     found .canonical 0x4c == some (.jmp, .absolute),
     found dflt 0x99 == some (.sta, .zeropageX),
     found (.asTranscribed .absyFirst) 0x99 == some (.sta, .absoluteY),
     found .canonical 0x99 == some (.sta, .absoluteY),
     found dflt 0xd9 == some (.cmp, .zeropageX),
     found (.asTranscribed .absyFirst) 0xd9 == some (.cmp, .absoluteY),
     found .canonical 0xd9 == some (.cmp, .absoluteY),
     found dflt 0x95 == none,
     found (.asTranscribed .absyFirst) 0x95 == none,
     found .canonical 0x95 == some (.sta, .zeropageX),
     found dflt 0xd5 == none,
     found (.asTranscribed .absyFirst) 0xd5 == none,
     found .canonical 0xd5 == some (.cmp, .zeropageX),
     found dflt 0x02 == none,
     found (.asTranscribed .absyFirst) 0x02 == none].all id = true := by decide +kernel

theorem test_find_others :
    [found .canonical 0x02 == none,
     found dflt 0xff == none,
     found (.asTranscribed .absyFirst) 0xff == none,
     found .canonical 0xff == none,
     found dflt 0x00 == some (.brk, .implied),
     found (.asTranscribed .absyFirst) 0x00 == some (.brk, .implied),
     found .canonical 0x00 == some (.brk, .implied),
     found dflt 0xea == some (.nop, .implied),
     found (.asTranscribed .absyFirst) 0xea == some (.nop, .implied),
     found .canonical 0xea == some (.nop, .implied),
     found dflt 0x69 == some (.adc, .immediate),
     found (.asTranscribed .absyFirst) 0x69 == some (.adc, .immediate),
     found .canonical 0x69 == some (.adc, .immediate),
     found dflt 0x98 == some (.tya, .implied),
     found (.asTranscribed .absyFirst) 0x98 == some (.tya, .implied),
     found .canonical 0x98 == some (.tya, .implied),
     found dflt 0x6c == some (.jmp, .indirect),
     found (.asTranscribed .absyFirst) 0x6c == some (.jmp, .indirect),
     found .canonical 0x6c == some (.jmp, .indirect)].all id = true := by decide +kernel

/-! ### One step at the terminal boundary (95_test_vectors.md 2.3, the vectors that take one step) -/

theorem test_boundary_one_step :
    [after (engineOn dflt []) == some ([.lead, .trail 0x0000], 0, .exhausted),
     after (engineOn dflt [0xea]) == some ([.lead, .instr 0x0000 [0xea] .nop [], .trail 0x0001], 1, .exhausted),
     after (engineOn dflt [0xa9]) == some ([.lead, .trail 0x0000], 0, .exhausted),
     after (engineOn dflt [0x4c, 0x00]) == some ([.lead, .trail 0x0000], 0, .exhausted),
     after (engineOn dflt [0xea, 0x4c, 0x00]) == some ([.lead, .instr 0x0000 [0xea] .nop [], .trail 0x0001], 1, .exhausted),
     after (engineOn dflt [0x4c, 0x00, 0x80, 0xa9]) == some ([.lead, .instr 0x0000 [0x4c, 0x00, 0x80] .jmp ['$', '8', '0', '0', '0'], .trail 0x0003], 3, .exhausted),
     after (engineOn dflt [0x02]) == some ([.lead, .trail 0x0001], 1, .exhausted),
     after (engineOn dflt [0x02, 0x4c]) == some ([.lead, .trail 0x0001], 1, .exhausted),
     after (engineOn dflt [0x4c, 0x00, 0x80]) == some ([.lead, .instr 0x0000 [0x4c, 0x00, 0x80] .jmp ['$', '8', '0', '0', '0'], .trail 0x0003], 3, .exhausted)].all id = true := by decide +kernel

/-! ### Rendering (95_test_vectors.md 2.4, V59 to V69) -/

theorem test_render :
    [render Config.default (.lead) == ['*', ' ', '=', ' ', '0', '0', '0', '0'],
     render Config.default (.trail 0x0000) == ['.', 'E', 'N', 'D', ' ', '0', '0', '0', '0'],
     render Config.default (.trail 0x4000) == ['.', 'E', 'N', 'D', ' ', '4', '0', '0', '0'],
     render Config.default (.trail 0x13ffe) == ['.', 'E', 'N', 'D', ' ', '1', '3', 'f', 'f', 'e'],
     render Config.default (.instr 0x0000 [0xa9, 0x05] .lda ['#', '$', '5']) == ['0', '0', '0', '0', ' ', 'a', '9', ' ', '0', '5', ' ', ' ', ' ', ' ', 'L', 'D', 'A', ' ', '#', '$', '5'],
     render Config.default (.instr 0x0010 [0x4c, 0x00, 0x80] .jmp ['$', '8', '0', '0', '0']) == ['0', '0', '1', '0', ' ', '4', 'c', ' ', '0', '0', ' ', '8', '0', ' ', 'J', 'M', 'P', ' ', '$', '8', '0', '0', '0'],
     render Config.default (.instr 0x7ffe [0xea] .nop []) == ['7', 'f', 'f', 'e', ' ', 'e', 'a', ' ', ' ', ' ', ' ', ' ', ' ', ' ', 'N', 'O', 'P'],
     render Config.default (.instr 0x0005 [0x0a] .asl ['A']) == ['0', '0', '0', '5', ' ', '0', 'a', ' ', ' ', ' ', ' ', ' ', ' ', ' ', 'A', 'S', 'L', ' ', 'A'],
     render Config.default (.instr 0xffff [0x60] .rts []) == ['f', 'f', 'f', 'f', ' ', '6', '0', ' ', ' ', ' ', ' ', ' ', ' ', ' ', 'R', 'T', 'S'],
     render Config.default (.instr 0x10000 [0xea] .nop []) == ['1', '0', '0', '0', '0', ' ', 'e', 'a', ' ', ' ', ' ', ' ', ' ', ' ', ' ', 'N', 'O', 'P'],
     render Config.default (.instr 0x3fbffd [0x4c, 0xff, 0xff] .jmp ['$', 'f', 'f', 'f', 'f']) == ['3', 'f', 'b', 'f', 'f', 'd', ' ', '4', 'c', ' ', 'f', 'f', ' ', 'f', 'f', ' ', 'J', 'M', 'P', ' ', '$', 'f', 'f', 'f', 'f']].all id = true := by decide +kernel

/-! ### Header fields (95_test_vectors.md 2.5, V70 to V89) -/

theorem test_header_fields :
    [Header.ofBytes 0x02 0x01 0x00 0x00 0x00 0x00 ==
      ⟨0, 0, 0, 0, 0, 0, 0, false, 0, 0x00, 32768, 8192, 0, 0⟩,
     Header.ofBytes 0x01 0x01 0x10 0x20 0x00 0x00 ==
      ⟨0, 0, 0, 0, 1, 0, 0, false, 2, 0x21, 16384, 8192, 0, 0⟩,
     Header.ofBytes 0x01 0x00 0xff 0xff 0x00 0x00 ==
      ⟨1, 1, 1, 1, 15, 1, 1, false, 15, 0xff, 16384, 0, 0, 0⟩,
     Header.ofBytes 0x01 0x00 0x00 0x08 0x00 0x00 ==
      ⟨0, 0, 0, 0, 0, 0, 0, true, 0, 0x00, 16384, 0, 0, 0⟩,
     Header.ofBytes 0x01 0x00 0x00 0x04 0x00 0x00 ==
      ⟨0, 0, 0, 0, 0, 0, 0, false, 0, 0x00, 16384, 0, 0, 0⟩,
     Header.ofBytes 0x01 0x00 0x00 0x0c 0x00 0x00 ==
      ⟨0, 0, 0, 0, 0, 0, 0, false, 0, 0x00, 16384, 0, 0, 0⟩,
     Header.ofBytes 0x01 0x00 0x00 0x0b 0x00 0x00 ==
      ⟨0, 0, 0, 0, 0, 1, 1, true, 0, 0x00, 16384, 0, 0, 0⟩,
     Header.ofBytes 0xff 0xff 0x00 0x00 0x00 0x00 ==
      ⟨0, 0, 0, 0, 0, 0, 0, false, 0, 0x00, 4177920, 2088960, 0, 0⟩,
     Header.ofBytes 0x00 0x00 0x00 0x00 0x00 0x00 ==
      ⟨0, 0, 0, 0, 0, 0, 0, false, 0, 0x00, 0, 0, 0, 0⟩,
     Header.ofBytes 0x01 0x00 0x00 0x00 0xff 0x00 ==
      ⟨0, 0, 0, 0, 0, 0, 0, false, 0, 0x00, 16384, 0, 2088960, 0⟩,
     Header.ofBytes 0x01 0x00 0x00 0x00 0x00 0x00 ==
      ⟨0, 0, 0, 0, 0, 0, 0, false, 0, 0x00, 16384, 0, 0, 0⟩,
     Header.ofBytes 0x01 0x00 0x00 0x00 0x00 0xfe ==
      ⟨0, 0, 0, 0, 0, 0, 0, false, 0, 0x00, 16384, 0, 0, 0⟩,
     Header.ofBytes 0x01 0x00 0x00 0x00 0x00 0x01 ==
      ⟨0, 0, 0, 0, 0, 0, 0, false, 0, 0x00, 16384, 0, 0, 1⟩,
     Header.ofBytes 0x01 0x00 0x01 0x00 0x00 0x00 ==
      ⟨1, 0, 0, 0, 0, 0, 0, false, 0, 0x00, 16384, 0, 0, 0⟩,
     Header.ofBytes 0x01 0x00 0x02 0x00 0x00 0x00 ==
      ⟨0, 1, 0, 0, 0, 0, 0, false, 0, 0x00, 16384, 0, 0, 0⟩,
     Header.ofBytes 0x01 0x00 0x04 0x00 0x00 0x00 ==
      ⟨0, 0, 1, 0, 0, 0, 0, false, 0, 0x00, 16384, 0, 0, 0⟩,
     Header.ofBytes 0x01 0x00 0x08 0x00 0x00 0x00 ==
      ⟨0, 0, 0, 1, 0, 0, 0, false, 0, 0x00, 16384, 0, 0, 0⟩,
     Header.ofBytes 0x01 0x00 0xf0 0x0f 0x00 0x00 ==
      ⟨0, 0, 0, 0, 15, 1, 1, false, 0, 0x0f, 16384, 0, 0, 0⟩,
     Header.ofBytes 0x01 0x00 0x0f 0xf0 0x00 0x00 ==
      ⟨1, 1, 1, 1, 0, 0, 0, false, 15, 0xf0, 16384, 0, 0, 0⟩,
     Header.ofBytes 0x01 0x01 0x15 0x21 0x01 0x01 ==
      ⟨1, 0, 1, 0, 1, 1, 0, false, 2, 0x21, 16384, 8192, 8192, 1⟩].all id = true := by decide +kernel

/-! ### Single steps (95_test_vectors.md 2.7) -/

/-- A decoding engine on the given bytes, at a cursor, with the records it has so far. -/
def engineAt (bs : List Byte) (c : Nat) (ls : List Line) : State :=
  { State.reset with engine := some ⟨Memory.ofBytes bs, c, .decoding, ls⟩ }

/-- V109, step 1: the leading marker, then `LDA #$5`. -/
theorem test_step_first :
    after (engineAt [0xa9, 0x05, 0x4c, 0x00, 0x80, 0x02, 0xea] 0 []) =
      some ([.lead, .instr 0 [0xa9, 0x05] .lda ['#', '$', '5']], 2, .decoding) := by decide +kernel
/-- V109, step 3: the skip of 0x02. -/
theorem test_step_skip :
    after (engineAt [0xa9, 0x05, 0x4c, 0x00, 0x80, 0x02, 0xea] 5 [.lead]) = some ([.lead], 6, .decoding) := by
  decide +kernel
/-- V109, step 4: the last instruction and the trailing marker. -/
theorem test_step_last :
    after (engineAt [0xa9, 0x05, 0x4c, 0x00, 0x80, 0x02, 0xea] 6 [.lead]) =
      some ([.lead, .instr 6 [0xea] .nop [], .trail 7], 7, .exhausted) := by decide +kernel
/-- V111: the leading marker stands although the first byte is skipped. -/
theorem test_step_first_unrecognised : after (engineAt [0x02, 0xea] 0 []) = some ([.lead], 1, .decoding) := by
  decide +kernel
/-- V114: a jump to offset 0 is passed over. -/
theorem test_step_no_control_flow :
    after (engineAt [0xd0, 0xfe, 0x4c, 0x00, 0x00] 2 [.lead]) =
      some ([.lead, .instr 2 [0x4c, 0x00, 0x00] .jmp ['$', '0'], .trail 5], 5, .exhausted) := by decide +kernel
/-- V116 under the default table and under `T_CANONICAL`: the displaced byte. -/
theorem test_step_displaced :
    after (engineOn dflt [0x95, 0x10]) = some ([.lead, .trail 1], 1, .exhausted) ∧
    after (engineOn .canonical [0x95, 0x10]) =
      some ([.lead, .instr 0 [0x95, 0x10] .sta ['$', '1', '0', ',', 'X'], .trail 2], 2, .exhausted) := by
  decide +kernel
/-- The host's view: the word of `JMP` ABSOLUTE with zero operands, placed after reset, is the first thing to run. -/
theorem test_placed_word :
    decodeTableWord 24 0x4c = some (.jmpAbsolute 0x00 0x00) ∧
    (State.reset.withFetchWord 24 0x4c).port.requests = [] ∧
    after (State.reset.withFetchWord 24 0x4c) =
      some ([.lead, .instr 0 [0x4c, 0x00, 0x00] .jmp ['$', '0'], .trail 3], 3, .exhausted) := by decide +kernel
/-- V110: `text` before completion. -/
theorem test_text_early :
    (match perform .text (engineAt [0xea, 0xea] 1 [.lead, .instr 0 [0xea] .nop []]) with
     | .next t => t.port.replies
     | .fault _ => []
     | .refused _ => []) =
      [.text ['*', ' ', '=', ' ', '0', '0', '0', '0', '\n', '0', '0', '0', '0', ' ', 'e', 'a', ' ', ' ', ' ', ' ', ' ',
        ' ', ' ', 'N', 'O', 'P', '\n']] := by decide +kernel

/-- R150, 91_not_in_source.md N11 and N15: a table that spells a mnemonic otherwise. The decoder has no instruction for the
row, and a step gives it the record of R176 all the same. -/
theorem test_step_other_mnemonic :
    decode [⟨0x02, ⟨.k, .i, .l⟩, .implied, 2, .none⟩] [0x02] =
      .rejected (.noInstruction ⟨0x02, ⟨.k, .i, .l⟩, .implied, 2, .none⟩) ∧
    after { engineAt [0x02] 0 [] with cfg := { Config.default with table := [⟨0x02, ⟨.k, .i, .l⟩, .implied, 2, .none⟩] } } =
      some ([.lead, .instr 0 [0x02] ⟨.k, .i, .l⟩ [], .trail 1], 1, .exhausted) ∧
    mnemonicText ⟨.k, .i, .l⟩ = ['K', 'I', 'L'] := by decide +kernel

/-! ### `load` (95_test_vectors.md 2.6) -/

/-- `CST` and the lengths of the three buffers after a `load` of the reset block. -/
def loadOf (checkMagic : Bool) (src : Source) : Option (Cst × Nat × Nat × Nat) :=
  match perform (.load src) (State.resetWith { Config.default with checkMagic := checkMagic }) with
  | .next t =>
    match t.rom with
    | .loaded c => some (t.cst, c.trn.size, c.prg.size, c.chr.size)
    | _ => some (t.cst, 0, 0, 0)
  | .fault _ => none
  | .refused _ => none

/-- The error `load` answers, where it answers one. -/
def loadErrorOf (checkMagic : Bool) (src : Source) : Option LoadError :=
  match readContainer checkMagic src with
  | .ok _ => none
  | .error x => some x

/-- A header with signature, and the bytes 4 to 9. -/
def headerBytes (f : List Byte) : List Byte := [0x4e, 0x45, 0x53, 0x1a] ++ f ++ [0, 0, 0, 0, 0, 0]

/-- V90 to V98. -/
theorem test_load_errors :
    loadErrorOf true .failure = some .ioError ∧ loadOf true .failure = some (.failedIo, 0, 0, 0) ∧
    loadErrorOf true (.bytes []) = some (.formatError .shortHeader) ∧
    loadErrorOf true (.bytes ([0x4e, 0x45, 0x53, 0x1a] ++ List.replicate 11 0)) = some (.formatError .shortHeader) ∧
    loadErrorOf true (.bytes (List.replicate 15 0)) = some (.formatError .shortHeader) ∧
    loadErrorOf true (.bytes ([0x4e, 0x45, 0x53, 0x00] ++ List.replicate 12 0)) = some (.formatError .badMagic) ∧
    loadErrorOf true (.bytes ([0x6e, 0x65, 0x73, 0x1a] ++ List.replicate 12 0)) = some (.formatError .badMagic) ∧
    loadErrorOf true (.bytes ([0x4e, 0x45, 0x53, 0x00, 0x01] ++ List.replicate 11 0)) = some (.formatError .badMagic) ∧
    loadOf true (.bytes ([0x4e, 0x45, 0x53, 0x00] ++ List.replicate 12 0)) = some (.failedFormat, 0, 0, 0) := by
  decide +kernel
/-- V94, V96, and R411's 16-byte file with `F[4] = 1`. -/
theorem test_load_smallest :
    loadOf true (.bytes (headerBytes [0, 0, 0, 0, 0, 0])) = some (.loaded, 0, 0, 0) ∧
    loadOf false (.bytes ([0x4e, 0x45, 0x53, 0x00] ++ List.replicate 12 0)) = some (.loaded, 0, 0, 0) ∧
    loadErrorOf true (.bytes (headerBytes [1, 0, 0, 0, 0, 0])) = some (.formatError .shortBody) := by decide +kernel
/-- R128: the trainer is `F[16 .. 528)`; the file is filled with `F[i] = i mod 251` as in section 2.6. -/
theorem test_load_trainer :
    loadOf true (.bytes (headerBytes [0, 0, 4, 0, 0, 0] ++ (List.range 511).map (fun i => BitVec.ofNat 8 ((16 + i) % 251))))
      = some (.failedFormat, 0, 0, 0) ∧
    (match readContainer true (.bytes (headerBytes [0, 0, 4, 0, 0, 0] ++
        (List.range 517).map (fun i => BitVec.ofNat 8 ((16 + i) % 251)))) with
     | .ok c => (c.trn.size, c.trn.read 0, c.trn.read 511, c.trn.read 512, c.prg.size)
     | .error _ => (0, none, none, none, 0)) = (512, some 0x10, some 0x19, none, 0) := by decide +kernel
/-- R414, R413: a second `load` and an accessor of a failed container are refused. -/
theorem test_out_of_order :
    perform (.load .failure) ⟨Config.default, .failedIo, none, ⟨[], []⟩⟩ = .refused .loadNotPermitted ∧
    perform .programRegion ⟨Config.default, .failedIo, none, ⟨[], []⟩⟩ = .refused .containerNotLoaded ∧
    step State.reset = .refused .noEngine := by
  refine ⟨rfl, rfl, rfl⟩

/-! ### Witnesses: the hypotheses of each obligation can be met -/

/-- The bytes the witnesses decode: `LDA #$5`, `JMP $8000`, a skip, `NOP`. -/
def someBytes : List Byte := [0xa9, 0x05, 0x4c, 0x00, 0x80, 0x02, 0xea]

/-- An engine two bytes into `someBytes`. -/
def midEngine : Engine := ⟨Memory.ofBytes someBytes, 2, .decoding, [.lead, .instr 0 [0xa9, 0x05] .lda ['#', '$', '5']]⟩

/-- The same engine in the terminal state of the region `a9 05`. -/
def doneEngine : Engine :=
  ⟨Memory.ofBytes [0xa9, 0x05], 2, .exhausted, [.lead, .instr 0 [0xa9, 0x05] .lda ['#', '$', '5'], .trail 2]⟩

theorem midEngine_inv : midEngine.Inv Config.default := by
  refine ⟨Memory.ofBytes_isRegion _, by decide, .inr ⟨by decide, by decide +kernel, _, 0, rfl, ?_⟩⟩
  exact Swept.instr (cfg := Config.default) (prg := Memory.ofBytes someBytes) (b := 0xa9)
    (d := ⟨0xa9, .lda, .immediate, 2, .none⟩) .start (by decide +kernel) (by decide +kernel) (by decide +kernel)

theorem doneEngine_inv : doneEngine.Inv Config.default := by
  refine ⟨Memory.ofBytes_isRegion _, by decide, by decide +kernel, [.instr 0 [0xa9, 0x05] .lda ['#', '$', '5']], 0, rfl, ?_⟩
  exact Swept.instr (cfg := Config.default) (prg := Memory.ofBytes [0xa9, 0x05]) (b := 0xa9)
    (d := ⟨0xa9, .lda, .immediate, 2, .none⟩) .start (by decide +kernel) (by decide +kernel) (by decide +kernel)

/-- A state with an engine in it. -/
def withEngine (e : Engine) : State := { State.reset with engine := some e }

/-- A container with one program bank of `NOP`. -/
def nopContainer : Container where
  hdr := Header.ofBytes 1 0 0 0 0 0
  trn := Memory.ofBytes []
  prg := Memory.ofBytes (List.replicate 16384 0xea)
  chr := Memory.ofBytes []

theorem nopContainer_inv : nopContainer.Inv := by
  refine ⟨⟨1, 0, 0, 0, 0, 0, rfl⟩, Memory.ofBytes_isRegion _, Memory.ofBytes_isRegion _, Memory.ofBytes_isRegion _,
    rfl, ?_, rfl⟩
  show (Memory.ofBytes (List.replicate 16384 0xea)).size = 1 * 16384
  rw [Memory.ofBytes_size, List.length_replicate, Nat.one_mul]

/-- The block with that container loaded, an engine created on it, and requests of the host. -/
def loadedState (qs : List Request) : State :=
  ⟨Config.default, .loaded nopContainer, some (newEngine nopContainer.prg), ⟨qs, []⟩⟩

theorem default_settled : Table.settled Config.default.table := by decide +kernel

theorem loadedState_inv (qs : List Request) : (loadedState qs).Inv := by
  refine ⟨default_settled, ?_, ?_⟩
  · intro c h
    have hc : c = nopContainer := (Rom.loaded.inj h).symm
    exact hc ▸ nopContainer_inv
  · intro e h
    have he : e = newEngine nopContainer.prg := (Option.some.inj h).symm
    subst he
    exact ⟨⟨nopContainer_inv.2.2.1, Nat.zero_le _, .inl ⟨rfl, rfl⟩⟩, nopContainer, rfl, rfl⟩

/-! Encoding. -/
theorem witness_SettledRowsDecode : ∃ T, Table.settled T := ⟨_, default_settled⟩
theorem witness_DecodeEncodeRoundTrip : ∃ (T : List Descriptor) (i : Instr), i.wf T :=
  ⟨Config.default.table, .ldaImmediate 0x05, by decide +kernel⟩
theorem witness_EncodeDecodeRoundTrip :
    (Config.default.table.map (fun d => (d.mnemonic, d.mode))).Nodup ∧
    decode Config.default.table [0x4c, 0x00, 0x80, 0xea] = .instr (.jmpAbsolute 0x00 0x80) [0xea] := by decide +kernel
theorem witness_HexNumerals : (0x8000 : Nat) ≠ 0 ∧ '8' ∈ hex 0x8000 ∧ '0' ∈ (hexpad 5 4).take (4 - (hex 5).length) ∧
    ' ' ∈ (ljust ['a'] 8).drop 1 := by decide +kernel
theorem witness_TextOfRecords : ∃ (s : State) (e : Engine), s.engine = some e ∧ e.lines ≠ [] :=
  ⟨withEngine midEngine, midEngine, rfl, by decide⟩
theorem witness_OutputIsAscii :
    ∃ (s : State) (e : Engine), s.engine = some e ∧ e.Inv s.cfg ∧ (∀ ch ∈ s.cfg.markerLead, printable ch) ∧
      (∀ ch ∈ s.cfg.markerTrailPrefix, printable ch) ∧ textOf s.cfg e.lines ≠ [] := by
  refine ⟨withEngine doneEngine, doneEngine, rfl, doneEngine_inv, ?_, ?_, by decide +kernel⟩
  · show ∀ ch ∈ Config.default.markerLead, printable ch
    simp [Config.default, printable]
  · show ∀ ch ∈ Config.default.markerTrailPrefix, printable ch
    simp [Config.default, printable]

/-! One step. -/
theorem witness_ExhaustionIsRemainingBelowRequired :
    (Memory.ofBytes someBytes).isRegion ∧ exhaustedAt Config.default.table (Memory.ofBytes someBytes) 7 = true ∧
    exhaustedAt Config.default.table (Memory.ofBytes [0x4c, 0x00]) 0 = true ∧
    exhaustedAt Config.default.table (Memory.ofBytes someBytes) 6 = false := by decide +kernel
theorem witness_StepFollowsPseudocode :
    ∃ (s : State) (e : Engine), s.engine = some e ∧ e.est = .decoding ∧ e.prg.isRegion :=
  ⟨withEngine midEngine, midEngine, rfl, rfl, by decide⟩
theorem witness_StepRunsDecodedInstruction :
    ∃ (s : State) (e : Engine) (i : Instr) (rest : List Byte), s.engine = some e ∧ e.est = .decoding ∧ e.prg.isRegion ∧
      decode s.cfg.table (e.prg.window e.cursor 3) = .instr i rest ∧ s.port.requests = [] :=
  ⟨withEngine midEngine, midEngine, .jmpAbsolute 0x00 0x80, [], rfl, rfl, by decide, by decide +kernel, rfl⟩
theorem witness_StepRunsDecodedInstruction_at_zero :
    ∃ (s : State) (e : Engine) (i : Instr) (rest : List Byte), s.engine = some e ∧ e.est = .decoding ∧ e.prg.isRegion ∧
      decode s.cfg.table (e.prg.window e.cursor 3) = .instr i rest ∧ e.cursor = 0 :=
  ⟨engineAt someBytes 0 [], _, .ldaImmediate 0x05, [0x4c], rfl, rfl, by decide, by decide +kernel, rfl⟩
theorem witness_SkipAdvancesByOne :
    ∃ (s : State) (e : Engine) (b : Byte), s.engine = some e ∧ e.est = .decoding ∧ e.prg.isRegion ∧
      e.prg.bytes[e.cursor]? = some b ∧ find s.cfg.table b = none ∧ e.cursor ≠ 0 :=
  ⟨engineAt someBytes 5 [.lead], _, 0x02, rfl, rfl, by decide, by decide, by decide +kernel, by decide⟩
theorem witness_SkipAdvancesByOne_at_zero :
    ∃ (s : State) (e : Engine) (b : Byte), s.engine = some e ∧ e.est = .decoding ∧ e.prg.isRegion ∧
      e.prg.bytes[e.cursor]? = some b ∧ find s.cfg.table b = none ∧ e.cursor = 0 :=
  ⟨engineAt [0x02] 0 [], _, 0x02, rfl, rfl, by decide, by decide, by decide +kernel, by decide⟩
theorem witness_ExhaustedEngineStays : ∃ (s : State) (e : Engine), s.engine = some e ∧ e.est = .exhausted :=
  ⟨withEngine doneEngine, doneEngine, rfl, rfl⟩

/-- The hypotheses of the statements about the instructions of one mode, for a mode of `n` bytes: at the boundary, where the
instruction just fits. -/
abbrev RoomFor (n : Nat) : Prop :=
  ∃ (s : State) (e : Engine), s.engine = some e ∧ e.est = .decoding ∧ e.prg.isRegion ∧ e.cursor + n = e.prg.size

theorem witness_AccumulatorDecodeCompletes : RoomFor 1 :=
  ⟨engineAt ([0xea] ++ [0x0a]) 1 [.lead], _, rfl, rfl, by decide, by decide⟩
theorem witness_ImpliedDecodeCompletes : RoomFor 1 :=
  ⟨engineAt ([0xea] ++ [0xea]) 1 [.lead], _, rfl, rfl, by decide, by decide⟩
theorem witness_ImmediateDecodeCompletes : RoomFor 2 :=
  ⟨engineAt ([0xea] ++ [0xa9, 0x05]) 1 [.lead], _, rfl, rfl, by decide, by decide⟩
theorem witness_ZeropageDecodeCompletes : RoomFor 2 :=
  ⟨engineAt ([0xea] ++ [0x65, 0x05]) 1 [.lead], _, rfl, rfl, by decide, by decide⟩
theorem witness_ZeropageXDecodeCompletes : RoomFor 2 :=
  ⟨engineAt ([0xea] ++ [0x75, 0x7f]) 1 [.lead], _, rfl, rfl, by decide, by decide⟩
theorem witness_ZeropageYDecodeCompletes : RoomFor 2 :=
  ⟨engineAt ([0xea] ++ [0xb6, 0x10]) 1 [.lead], _, rfl, rfl, by decide, by decide⟩
theorem witness_RelativeDecodeCompletes : RoomFor 2 :=
  ⟨engineAt ([0xea] ++ [0xd0, 0xfe]) 1 [.lead], _, rfl, rfl, by decide, by decide⟩
theorem witness_IndirectXDecodeCompletes : RoomFor 2 :=
  ⟨engineAt ([0xea] ++ [0x61, 0x10]) 1 [.lead], _, rfl, rfl, by decide, by decide⟩
theorem witness_IndirectYDecodeCompletes : RoomFor 2 :=
  ⟨engineAt ([0xea] ++ [0x31, 0x05]) 1 [.lead], _, rfl, rfl, by decide, by decide⟩
theorem witness_AbsoluteDecodeCompletes : RoomFor 3 :=
  ⟨engineAt ([0xea] ++ [0x4c, 0x00, 0x80]) 1 [.lead], _, rfl, rfl, by decide, by decide⟩
theorem witness_AbsoluteXDecodeCompletes : RoomFor 3 :=
  ⟨engineAt ([0xea] ++ [0x7d, 0xff, 0x12]) 1 [.lead], _, rfl, rfl, by decide, by decide⟩
theorem witness_AbsoluteYDecodeCompletes : RoomFor 3 :=
  ⟨engineAt ([0xea] ++ [0x79, 0x0a, 0x00]) 1 [.lead], _, rfl, rfl, by decide, by decide⟩
theorem witness_IndirectDecodeCompletes : RoomFor 3 :=
  ⟨engineAt ([0xea] ++ [0x6c, 0xfc, 0xff]) 1 [.lead], _, rfl, rfl, by decide, by decide⟩
theorem witness_EveryInstructionCompletes :
    ∃ (i : Instr) (s : State) (e : Engine), s.engine = some e ∧ e.est = .decoding ∧ e.prg.isRegion ∧
      e.cursor + i.mode.len ≤ e.prg.size :=
  ⟨.jmpAbsolute 0x00 0x80, withEngine midEngine, midEngine, rfl, rfl, by decide, by decide⟩
theorem witness_TruncatedInstructionExhausts :
    ∃ (i : Instr) (s : State) (e : Engine), s.engine = some e ∧ e.est = .decoding ∧
      e.prg.size < e.cursor + i.mode.len :=
  ⟨.jmpAbsolute 0x00 0x80, engineAt [0x4c, 0x00] 0 [], _, rfl, rfl, by decide⟩
theorem witness_InstructionFrame : ∃ (i : Instr) (s t : State), exec i s = .next t ∧ t.engine ≠ s.engine :=
  ⟨.nopImplied, engineAt [0xea, 0xea] 0 [], _, rfl, by decide +kernel⟩
theorem witness_CursorIgnoresOperands :
    ∃ (i j : Instr) (s t : State), i.mode = j.mode ∧ i ≠ j ∧ exec i s = .next t :=
  ⟨.jmpAbsolute 0x00 0x00, .staAbsolute 0x00 0x80, engineAt [0x4c, 0x00, 0x00] 0 [], _, rfl, by decide, rfl⟩

/-! The container. -/
theorem witness_LoadFailures :
    ∃ s : State, s.rom = .empty ∧ s.engine = none ∧ s.cfg.checkMagic = true ∧
      (List.replicate 15 (0 : Byte)).length < 16 ∧
      (16 ≤ (List.replicate 16 (0 : Byte)).length ∧ (List.replicate 16 (0 : Byte)).take 4 ≠ [0x4e, 0x45, 0x53, 0x1a]) ∧
      (16 ≤ (headerBytes [1, 0, 0, 0, 0, 0]).length ∧
        (headerBytes [1, 0, 0, 0, 0, 0]).take 4 = [0x4e, 0x45, 0x53, 0x1a] ∧
        (headerBytes [1, 0, 0, 0, 0, 0]).length < 16 + 0 + ((headerBytes [1, 0, 0, 0, 0, 0]).getD 4 0).toNat * 16384 + 0) :=
  ⟨State.reset, rfl, rfl, rfl, by decide, by decide, by decide⟩
theorem witness_LoadSlicesTheFile :
    ∃ (s : State) (f : List Byte), s.rom = .empty ∧ 16 ≤ f.length ∧ f.take 4 = [0x4e, 0x45, 0x53, 0x1a] ∧
      16 + (if (f.getD 6 0).getLsbD 2 then 512 else 0) + (f.getD 4 0).toNat * 16384 + (f.getD 5 0).toNat * 8192 = f.length ∧
      (f.getD 6 0).getLsbD 2 = true := by
  refine ⟨State.reset, headerBytes [0, 0, 4, 0, 0, 0] ++ List.replicate 512 0xea, rfl, ?_, rfl, ?_, by decide⟩
  · simp [headerBytes]
  · simp [headerBytes]
theorem witness_RegionLengths :
    ∃ (s s' : State) (f : List Byte) (c : Container), s.rom = .empty ∧ perform (.load (.bytes f)) s = .next s' ∧
      s'.rom = .loaded c :=
  ⟨State.reset, _, headerBytes [0, 0, 0, 0, 0, 0], _, rfl, rfl, rfl⟩
theorem witness_HeaderFields :
    ∃ (s s' : State) (c : Container), s.rom = .loaded c ∧ s.port.requests.head? ≠ some .reset ∧ step s = .next s' :=
  ⟨loadedState [.field .mapper], _, nopContainer, rfl, by decide, rfl⟩
theorem witness_MapperNumber : (0x10 : Byte).toNat / 16 = 1 ∧ (0x20 : Byte).toNat / 16 = 2 := by decide
theorem witness_AccessorsAnswer : ∃ (s : State) (c : Container), s.rom = .loaded c := ⟨loadedState [], nopContainer, rfl⟩
theorem witness_CreateStartsAtZero :
    (∃ (s : State) (c : Container), s.rom = .loaded c) ∧ (∃ s : State, s.cst ≠ .loaded) :=
  ⟨⟨loadedState [], nopContainer, rfl⟩, State.reset, by decide⟩

/-! Runs. -/
theorem witness_RunEndsInBound : ∃ (s : State) (e : Engine), s.engine = some e ∧ e.Inv s.cfg ∧ e.est = .decoding :=
  ⟨withEngine midEngine, midEngine, rfl, midEngine_inv, rfl⟩
theorem witness_RunGivesTheSweep : ∃ (s : State) (c : Container), s.rom = .loaded c ∧ c.prg.isRegion :=
  ⟨loadedState [], nopContainer, rfl, Memory.ofBytes_isRegion _⟩
theorem witness_RunGivesTheSweep_empty_region :
    ∃ (s : State) (c : Container), s.rom = .loaded c ∧ c.prg.isRegion ∧ c.prg.size = 0 :=
  ⟨⟨Config.default, .loaded ⟨Header.ofBytes 0 0 0 0 0 0, ⟨[]⟩, ⟨[]⟩, ⟨[]⟩⟩, none, ⟨[], []⟩⟩, _, rfl, by decide, rfl⟩
theorem witness_EngineAccounting : ∃ (s : State) (e : Engine), s.engine = some e ∧ e.Inv s.cfg ∧ e.lines ≠ [] :=
  ⟨withEngine midEngine, midEngine, rfl, midEngine_inv, by decide⟩
theorem witness_AllBytesUnrecognised :
    ∃ bs : List Byte, bs ≠ [] ∧ ∀ b ∈ bs, find Config.default.table b = none :=
  ⟨[0x02, 0x02, 0x02], by decide, by
    intro b hb
    have : b = 0x02 := by simpa using hb
    subst this; decide +kernel⟩

/-! The whole machine. -/
theorem witness_ResetMeetsInvariant : ∃ cfg : Config, cfg.indirectRender = .combine ∧ Table.settled cfg.table :=
  ⟨{ Config.default with indirectRender := .combine }, rfl, default_settled⟩
theorem witness_InvariantKeptByEveryStep : ∃ s s' : State, s.Inv ∧ step s = .next s' :=
  ⟨loadedState [.find 0xa9], _, loadedState_inv _, rfl⟩
theorem witness_ReachableStatesAreSafe : ∃ s : State, Reachable s ∧ s.port.requests ≠ [] :=
  ⟨_, .ask (.load .failure) (.reset Config.default default_settled), by decide⟩
theorem witness_ReadsStayInBounds : ∃ s : State, s.Inv ∧ s.engine ≠ none :=
  ⟨loadedState [], loadedState_inv _, by simp [loadedState]⟩
theorem witness_ReadsStayInBounds_reads :
    ∃ (s : State) (e : Engine), s.Inv ∧ s.engine = some e ∧ exhaustedAt s.cfg.table e.prg e.cursor = false := by
  refine ⟨loadedState [], _, loadedState_inv _, rfl, ?_⟩
  have hb : nopContainer.prg.read 0 = some 0xea := by decide +kernel
  have hs : nopContainer.prg.size = 16384 := by
    show (Memory.ofBytes (List.replicate 16384 0xea)).size = 16384
    rw [Memory.ofBytes_size, List.length_replicate]
  show exhaustedAt Config.default.table nopContainer.prg 0 = false
  simp only [exhaustedAt, requiredLength, hb, hs]
  decide +kernel
theorem witness_TransactionsInOrderComplete :
    (∃ s : State, s.Inv ∧ s.cst = .empty) ∧ (∃ s : State, s.Inv ∧ s.cst = .loaded ∧ s.engine ≠ none) :=
  ⟨⟨State.reset, ⟨default_settled, fun _ h => (by cases h), fun _ h => (by cases h)⟩, rfl⟩,
   ⟨loadedState [], loadedState_inv _, rfl, by simp [loadedState]⟩⟩
theorem witness_TransactionsOutOfOrderRefused :
    ∃ s t : State, s.cst ≠ .loaded ∧ s.engine = none ∧ t.cst ≠ .empty :=
  ⟨State.reset, loadedState [], by decide, rfl, by simp [loadedState, State.cst]⟩
theorem witness_ConfigurationNeverChanges : ∃ s s' : State, step s = .next s' := ⟨loadedState [.create], _, rfl⟩
theorem witness_ContainerChangesOnlyInLoad : ∃ s s' : State, step s = .next s' ∧ s'.rom ≠ s.rom :=
  ⟨State.reset.ask (.load .failure), _, rfl, by decide⟩
theorem witness_EngineOnlyGrows :
    ∃ (s s' : State) (e : Engine), s.Inv ∧ s.engine = some e ∧ step s = .next s' ∧
      s.port.requests.head? ≠ some .create ∧ s.port.requests.head? ≠ some .reset :=
  ⟨loadedState [.text], _, _, loadedState_inv _, rfl, rfl, by decide, by decide⟩
theorem witness_EngineReadsOnlyItsRegion :
    ∃ s t u : State, stepEngine s = .next t ∧ run s = .next u :=
  ⟨withEngine doneEngine, _, _, rfl, rfl⟩
theorem witness_StepTakesOldestRequest :
    ∃ (s : State) (q : Request) (rest : List Request), s.port.requests = q :: rest :=
  ⟨loadedState [.run, .text], .run, [.text], rfl⟩
theorem witness_PlacedWordRuns :
    ∃ (s : State) (w : Nat) (i : Instr), s.cfg.table = Config.default.table ∧ decodeTableWord 8 w = some i :=
  ⟨State.reset, 0xea, .nopImplied, rfl, by decide +kernel⟩

end Sys2Proof.Tests
end

section
/-! PROOF. The text functions of 00_scope.md R7 and R8, one layer of rules for each: `combine`, the digits, `hex` with
its recursion packaged as one induction, the two paddings. -/

namespace Sys2Proof.Machine

/-! ### combine -/

/-- The two bytes of `combine` share no bit, so the union is a sum. -/
theorem combine_eq_add (lo hi : Byte) : combine lo hi = lo.toNat + 256 * hi.toNat := by
  have hdisjoint : hi.toNat <<< 8 + lo.toNat = hi.toNat <<< 8 ||| lo.toNat :=
    Nat.shiftLeft_add_eq_or_of_lt lo.isLt hi.toNat
  rw [combine, Nat.or_comm, ← hdisjoint, Nat.shiftLeft_eq]
  omega

theorem combine_lt (lo hi : Byte) : combine lo hi < 65536 := by
  have hlo := lo.isLt
  have hhi := hi.isLt
  rw [combine_eq_add]
  omega

/-! ### The digits -/

/-- The sixteen lowercase digits, in the order of their values (R7). -/
def hexAlphabet : Text := ['0', '1', '2', '3', '4', '5', '6', '7', '8', '9', 'a', 'b', 'c', 'd', 'e', 'f']

theorem hexAlphabet_nodup : hexAlphabet.Nodup := by decide

theorem hexDigit_eq_getElem {v : Nat} (hv : v < hexAlphabet.length) : hexDigit v = hexAlphabet[v] :=
  List.getD_eq_getElem _ '0' hv

theorem hexDigit_mem {v : Nat} (hv : v < 16) : hexDigit v ∈ hexAlphabet := by
  rw [hexDigit_eq_getElem hv]
  exact List.getElem_mem hv

theorem idxOf_hexDigit {v : Nat} (hv : v < 16) : hexAlphabet.idxOf (hexDigit v) = v := by
  rw [hexDigit_eq_getElem hv]
  exact hexAlphabet_nodup.idxOf_getElem v hv

theorem hexDigit_ne_zero {v : Nat} (hv : v < 16) (hne : v ≠ 0) : hexDigit v ≠ '0' := by
  intro hzero
  have hidx := idxOf_hexDigit hv
  rw [hzero] at hidx
  exact hne hidx.symm

/-! ### hex -/

/-- A bound of at least `v` is never reached, so every such bound gives the same digits. -/
theorem hexDigits_eq_hex {fuel v : Nat} (hle : v ≤ fuel) : hexDigits fuel v = hex v := by
  induction v using Nat.strong_induction_on generalizing fuel with
  | _ v ih =>
    match fuel, v with
    | 0, 0 => rfl
    | fuel + 1, 0 => rfl
    | fuel + 1, v + 1 =>
      have hquot : (v + 1) / 16 < v + 1 := by omega
      rw [hex, hexDigits, hexDigits, ih _ hquot (by omega : _ ≤ fuel), ih _ hquot (by omega : _ ≤ v)]

theorem hex_of_lt {v : Nat} (hv : v < 16) : hex v = [hexDigit v] := by
  rw [← hexDigits_eq_hex (Nat.le_succ v), hexDigits, if_pos hv]

theorem hex_of_ge {v : Nat} (hv : 16 ≤ v) : hex v = hex (v / 16) ++ [hexDigit (v % 16)] := by
  rw [← hexDigits_eq_hex (Nat.le_succ v), hexDigits, if_neg (by omega), hexDigits_eq_hex (by omega)]

/-- The recursion of `hex` as an induction: what holds of a one-digit numeral, and of a numeral with one more digit
when it holds of the numeral before that digit, holds of every numeral. -/
theorem hex_induction {P : Nat → Text → Prop} (digit : ∀ v, v < 16 → P v [hexDigit v])
    (snoc : ∀ v, 16 ≤ v → P (v / 16) (hex (v / 16)) → P v (hex (v / 16) ++ [hexDigit (v % 16)])) (v : Nat) :
    P v (hex v) := by
  induction v using Nat.strong_induction_on with
  | _ v ih =>
    rcases Nat.lt_or_ge v 16 with hv | hv
    · rw [hex_of_lt hv]
      exact digit v hv
    · rw [hex_of_ge hv]
      exact snoc v hv (ih (v / 16) (by omega))

theorem hexValue_singleton (ch : Char) : hexValue [ch] = hexAlphabet.idxOf ch := Nat.zero_add _

theorem hexValue_snoc (t : Text) (ch : Char) : hexValue (t ++ [ch]) = 16 * hexValue t + hexAlphabet.idxOf ch :=
  List.foldl_concat ..

theorem hexValue_hex (v : Nat) : hexValue (hex v) = v := by
  induction v using hex_induction with
  | digit v hv => rw [hexValue_singleton, idxOf_hexDigit hv]
  | snoc v hv ih =>
    rw [hexValue_snoc, ih, idxOf_hexDigit (Nat.mod_lt v (by decide))]
    exact Nat.div_add_mod v 16

theorem hex_ne_nil (v : Nat) : hex v ≠ [] := by
  induction v using hex_induction with
  | digit v hv => exact List.cons_ne_nil _ _
  | snoc v hv ih => exact List.append_ne_nil_of_left_ne_nil ih _

/-- The first digit of a number of at least 16 is the first digit of its quotient by 16, which is not 0. -/
theorem hex_head?_ne_zero {v : Nat} (hne : v ≠ 0) : (hex v).head? ≠ some '0' := by
  induction v using hex_induction with
  | digit v hv => exact fun hhead => hexDigit_ne_zero hv hne (Option.some.inj hhead)
  | snoc v hv ih =>
    rw [List.head?_append_of_ne_nil _ (hex_ne_nil _)]
    exact ih (by omega)

theorem hex_subset_hexAlphabet (v : Nat) : hex v ⊆ hexAlphabet := by
  induction v using hex_induction with
  | digit v hv => exact List.cons_subset.2 ⟨hexDigit_mem hv, List.nil_subset _⟩
  | snoc v hv ih =>
    exact List.append_subset.2
      ⟨ih, List.cons_subset.2 ⟨hexDigit_mem (Nat.mod_lt v (by decide)), List.nil_subset _⟩⟩

theorem hex_zero : hex 0 = ['0'] := rfl

/-! ### The paddings -/

theorem hex_suffix_hexpad (v w : Nat) : hex v <:+ hexpad v w := List.suffix_append ..

@[simp] theorem hexpad_length (v w : Nat) : (hexpad v w).length = max w (hex v).length := by
  rw [hexpad, List.length_append, List.length_replicate]
  exact Nat.sub_add_eq_max ..

theorem eq_zero_of_mem_hexpad_padding {v w : Nat} {ch : Char}
    (hmem : ch ∈ (hexpad v w).take (w - (hex v).length)) : ch = '0' := by
  rw [hexpad, List.take_left' List.length_replicate] at hmem
  exact List.eq_of_mem_replicate hmem

theorem prefix_ljust (t : Text) (w : Nat) : t <+: ljust t w := List.prefix_append ..

@[simp] theorem ljust_length (t : Text) (w : Nat) : (ljust t w).length = max w t.length := by
  rw [ljust, List.length_append, List.length_replicate, Nat.add_comm]
  exact Nat.sub_add_eq_max ..

theorem eq_space_of_mem_ljust_padding {t : Text} {w : Nat} {ch : Char}
    (hmem : ch ∈ (ljust t w).drop t.length) : ch = ' ' := by
  rw [ljust, List.drop_left] at hmem
  exact List.eq_of_mem_replicate hmem

end Sys2Proof.Machine
end

section
/-! PROOF. What the two look-up transactions of 00_scope.md R12 do. -/

namespace Sys2Proof.Machine

@[simp] theorem perform_find (b : Byte) (s : State) :
    perform (.find b) s = .next (reply (.found (find s.cfg.table b)) s) := rfl

@[simp] theorem perform_decode (mode : Mode) (byte1 byte2 : Byte) (s : State) :
    perform (.decode mode byte1 byte2) s =
      .next (reply (.decoded mode.len (operandText s.cfg.indirectRender mode byte1 byte2)) s) := rfl

end Sys2Proof.Machine
end

section
/-! PROOF. The statements of the family 00_scope.md. -/

namespace Sys2Proof.Machine

/-- Settles O9: the union of the two disjoint bytes is their sum, which is below 2^16. -/
theorem combineIsLittleEndian : Obligations.CombineIsLittleEndian :=
  fun lo hi => ⟨combine_eq_add lo hi, Nat.le_of_lt_succ (combine_lt lo hi)⟩

/-- Settles O11: the facts about `hex` by induction on its recursion, those about the paddings from what they append. -/
theorem hexNumerals : Obligations.HexNumerals :=
  ⟨fun v => ⟨hexValue_hex v, hex_ne_nil v, hex_head?_ne_zero, fun _ hmem => hex_subset_hexAlphabet v hmem⟩,
   hex_zero,
   fun v w => ⟨hex_suffix_hexpad v w, hexpad_length v w, fun _ => eq_zero_of_mem_hexpad_padding⟩,
   fun t w => ⟨prefix_ljust t w, ljust_length t w, fun _ => eq_space_of_mem_ljust_padding⟩⟩

/-- Settles O42: each transaction's own rule, which also says that the state changes in its replies alone. -/
theorem lookupTransactionsAnswer : Obligations.LookupTransactionsAnswer :=
  fun s b mode byte1 byte2 => ⟨perform_find b s, perform_decode mode byte1 byte2 s⟩

end Sys2Proof.Machine
end

section
/-! PROOF. The header fields of 10_state.md R24 to R37 as arithmetic on the header bytes. -/

namespace Sys2Proof.Machine

theorem bit_toNat (f : Byte) (k : Nat) : (f.extractLsb' k 1).toNat = f.toNat / 2 ^ k % 2 := by
  rw [BitVec.extractLsb'_toNat, Nat.shiftRight_eq_div_pow]

theorem bit0_toNat (f : Byte) : (f.extractLsb' 0 1).toNat = f.toNat % 2 := by
  rw [bit_toNat, pow_zero, Nat.div_one]

theorem highNibble_toNat (f : Byte) : (f.extractLsb' 4 4).toNat = f.toNat / 16 := by
  have hf := f.isLt
  rw [BitVec.extractLsb'_toNat, Nat.shiftRight_eq_div_pow]
  omega

theorem isInes2Of_iff (f7 : Byte) : isInes2Of f7 = true ↔ f7.toNat / 4 % 4 = 2 := by
  rw [isInes2Of, beq_iff_eq, ← BitVec.toNat_inj, BitVec.extractLsb'_toNat, Nat.shiftRight_eq_div_pow]
  rfl

/-- A size counts banks in one byte, so it is at most 255 of them. -/
theorem banks_le (f : Byte) (bank : Nat) : f.toNat * bank ≤ 255 * bank :=
  Nat.mul_le_mul_right bank (Nat.le_of_lt_succ f.isLt)

/-- The two nibbles of the mapper number stand side by side. -/
theorem mapperOf_eq_append (high low : BitVec 4) : mapperOf high low = high ++ low := by
  rw [BitVec.append_def, BitVec.shiftLeftZeroExtend_eq, BitVec.setWidth'_eq]
  rfl

theorem mapperOf_toNat (high low : BitVec 4) : (mapperOf high low).toNat = 16 * high.toNat + low.toNat := by
  rw [mapperOf_eq_append, BitVec.toNat_append, ← Nat.shiftLeft_add_eq_or_of_lt low.isLt, Nat.shiftLeft_eq]
  omega

theorem highNibble_shiftLeft (f : Byte) : (f.extractLsb' 4 4).setWidth 8 <<< 4 = f &&& 0xf0 := by
  ext i hi
  interval_cases i <;> simp

theorem highNibble_setWidth (f : Byte) : (f.extractLsb' 4 4).setWidth 8 = f >>> 4 := by
  apply BitVec.eq_of_toNat_eq
  have hf := f.isLt
  rw [BitVec.toNat_setWidth, highNibble_toNat, BitVec.toNat_ushiftRight, Nat.shiftRight_eq_div_pow]
  omega

end Sys2Proof.Machine
end

section
/-! PROOF. What an operation of the engine keeps (10_state.md R42 to R44, 42_engine.md R188): the relation
`Engine.Extends` between the engine before and after, one lemma for each operation, then one for each transaction. -/

namespace Sys2Proof.Machine

/-- The engine `e'` goes on where `e` stood: the same region, the earlier records in front, the cursor not moved back,
and nothing at all done where `e` was exhausted. -/
structure Engine.Extends (e e' : Engine) : Prop where
  prg : e'.prg = e.prg
  lines : e.lines <+: e'.lines
  cursor : e.cursor ≤ e'.cursor
  exhausted : e.est = .exhausted → e' = e

namespace Engine.Extends

theorem refl (e : Engine) : e.Extends e := ⟨rfl, List.prefix_rfl, le_rfl, fun _ => rfl⟩

theorem trans {e e' e'' : Engine} (h : e.Extends e') (h' : e'.Extends e'') : e.Extends e'' where
  prg := h'.prg.trans h.prg
  lines := h.lines.trans h'.lines
  cursor := h.cursor.trans h'.cursor
  exhausted hx := by
    obtain rfl := h.exhausted hx
    exact h'.exhausted hx

/-- A decoding engine has no exhausted case to answer for. -/
theorem of_decoding {e e' : Engine} (hd : e.est = .decoding) (prg : e'.prg = e.prg) (lines : e.lines <+: e'.lines)
    (cursor : e.cursor ≤ e'.cursor) : e.Extends e' :=
  ⟨prg, lines, cursor, fun hx => by rw [hd] at hx; cases hx⟩

theorem exhaust {e : Engine} (hd : e.est = .decoding) : e.Extends e.exhaust :=
  of_decoding hd rfl (List.prefix_append ..) le_rfl

theorem lead {e : Engine} (hd : e.est = .decoding) : e.Extends e.lead :=
  of_decoding hd e.lead_prg (e.lead_lines ▸ List.prefix_append ..) e.lead_cursor.ge

theorem advance {e : Engine} (hd : e.est = .decoding) (n : Nat) : e.Extends (e.advance n) :=
  of_decoding hd rfl List.prefix_rfl (Nat.le_add_right ..)

theorem append {e : Engine} (hd : e.est = .decoding) (r : Line) : e.Extends (e.append r) :=
  of_decoding hd rfl (List.prefix_append ..) le_rfl

theorem finish {e : Engine} (hd : e.est = .decoding) (T : List Descriptor) : e.Extends (e.finish T) := by
  rw [Engine.finish_eq]
  split
  · exact exhaust hd
  · exact refl e

theorem emit {e : Engine} (hd : e.est = .decoding) (T : List Descriptor) (bytes : List Byte) (m : Mnemonic)
    (operand : Text) : e.Extends (e.emit T bytes m operand) :=
  (append hd _).trans ((advance (e := e.append _) hd _).trans (finish (e := (e.append _).advance _) hd T))

end Engine.Extends

@[simp] theorem Engine.emit_cursor (e : Engine) (T : List Descriptor) (bytes : List Byte) (m : Mnemonic)
    (operand : Text) : (e.emit T bytes m operand).cursor = e.cursor + bytes.length := by
  simp [Engine.emit]

theorem Memory.readBytes_length {m : Memory} {a n : Nat} {bs : List Byte} (h : m.readBytes a n = some bs) :
    bs.length = n := by
  induction n generalizing a bs with
  | zero => cases h; rfl
  | succ n ih =>
    rw [Memory.readBytes] at h
    split at h
    · cases h
      rw [List.length_cons, ih ‹_›]
    · cases h

/-! ### Transactions that change the engine alone -/

/-- The state `t` is `s` with an engine that goes on where the one of `s` stood. -/
def EngineExtended (s t : State) : Prop :=
  ∃ e e', s.engine = some e ∧ t = s.setEngine e' ∧ e.Extends e'

theorem EngineExtended.refl {s : State} {e : Engine} (he : s.engine = some e) : EngineExtended s s :=
  ⟨e, e, he, (State.setEngine_self he).symm, .refl e⟩

theorem EngineExtended.trans {s t u : State} (h : EngineExtended s t) (h' : EngineExtended t u) :
    EngineExtended s u := by
  obtain ⟨e, e', he, rfl, hext⟩ := h
  obtain ⟨e₁, e'', he₁, rfl, hext'⟩ := h'
  obtain rfl : e' = e₁ := Option.some.inj he₁
  exact ⟨e, e'', he, State.setEngine_setEngine .., hext.trans hext'⟩

theorem EngineExtended.rom {s t : State} (h : EngineExtended s t) : t.rom = s.rom := by
  obtain ⟨_, _, _, rfl, _⟩ := h
  rfl

theorem EngineExtended.engine {s t : State} {e : Engine} (h : EngineExtended s t) (he : s.engine = some e) :
    ∃ e', t.engine = some e' ∧ e.Extends e' := by
  obtain ⟨e₁, e', he₁, rfl, hext⟩ := h
  obtain rfl : e₁ = e := Option.some.inj (he₁.symm.trans he)
  exact ⟨e', rfl, hext⟩

/-- The shared decode extends the engine, and moves its cursor by the instruction's length or not at all. -/
theorem decodeAs_frame {m : Mnemonic} {mode : Mode} {byte1 byte2 : Byte} {s t : State}
    (h : decodeAs m mode byte1 byte2 s = .next t) :
    ∃ e e', s.engine = some e ∧ t = s.setEngine e' ∧ e.Extends e' ∧
      (e'.cursor = e.cursor ∨ e'.cursor = e.cursor + mode.len) := by
  rcases decodeAs_cases m mode byte1 byte2 s with ⟨_, hno⟩ | ⟨e, he, hcase⟩
  · rw [hno] at h; cases h
  refine ⟨e, ?_⟩
  rcases hcase with ⟨_, hstay⟩ | ⟨hd, _, htrunc⟩ | ⟨_, _, _, hgap⟩ | ⟨hd, _, bytes, hbytes, hemit⟩
  · rw [hstay] at h; cases h
    exact ⟨e, he, (State.setEngine_self he).symm, .refl e, .inl rfl⟩
  · rw [htrunc] at h; cases h
    exact ⟨_, he, rfl, .exhaust hd, .inl rfl⟩
  · rw [hgap] at h; cases h
  · rw [hemit] at h; cases h
    exact ⟨_, he, rfl, .emit hd _ _ _ _, .inr (by rw [Engine.emit_cursor, Memory.readBytes_length hbytes])⟩

theorem decodeAs_extended {m : Mnemonic} {mode : Mode} {byte1 byte2 : Byte} {s t : State}
    (h : decodeAs m mode byte1 byte2 s = .next t) : EngineExtended s t := by
  obtain ⟨e, e', he, ht, hext, _⟩ := decodeAs_frame h
  exact ⟨e, e', he, ht, hext⟩

theorem skip_extended {s : State} {e : Engine} (he : s.engine = some e) (hd : e.est = .decoding) :
    EngineExtended s (finishEngine (takeException .decodeError s)) :=
  ⟨e, (e.advance 1).finish s.cfg.table, he, by simp [finishEngine, takeException, he, State.setEngine],
    (Engine.Extends.advance hd 1).trans (.finish (e := e.advance 1) hd s.cfg.table)⟩

theorem execDecoded_extended {window : List Byte} {s t : State} {e : Engine} (he : s.engine = some e)
    (hd : e.est = .decoding) (h : execDecoded window s = .next t) : EngineExtended s t := by
  unfold execDecoded at h
  cases hdecode : decode s.cfg.table window with
  | instr i rest =>
    simp only [hdecode, exec_eq_decodeAs] at h
    exact decodeAs_extended h
  | rejected why =>
    simp only [hdecode] at h
    cases why with
    | unrecognised b => cases h; exact skip_extended he hd
    | noInstruction d => exact decodeAs_extended h
    | noByte => cases h
    | truncated d => cases h

theorem stepEngine_extended {s t : State} (h : stepEngine s = .next t) : EngineExtended s t := by
  unfold stepEngine at h
  split at h
  · cases h
  next e he =>
  split at h
  · cases h
    exact .refl he
  next hd =>
  split at h
  · cases h
    exact ⟨e, _, he, rfl, (Engine.Extends.lead hd).trans (.exhaust (e.lead_est.trans hd))⟩
  · have hlead : EngineExtended s (s.setEngine e.lead) := ⟨e, _, he, rfl, .lead hd⟩
    exact hlead.trans (execDecoded_extended rfl (e.lead_est.trans hd) h)

theorem runEngine_extended {fuel : Nat} {s t : State} {e : Engine} (he : s.engine = some e)
    (h : runEngine fuel s = .next t) : EngineExtended s t := by
  induction fuel generalizing s e with
  | zero => cases h; exact .refl he
  | succ fuel ih =>
    simp only [runEngine, he] at h
    split at h
    · cases h
      exact .refl he
    split at h
    · next s' hstep =>
      have hext := stepEngine_extended hstep
      obtain ⟨e', he', _⟩ := hext.engine he
      exact hext.trans (ih he' h)
    · cases h
    · cases h

theorem run_extended {s t : State} (h : run s = .next t) : EngineExtended s t := by
  unfold run at h
  split at h
  · cases h
  · exact runEngine_extended ‹_› h

end Sys2Proof.Machine
end

section
/-! PROOF. Everything a transaction and a step of the machine can do to the state (00_scope.md R12, 20_memory.md
R72). -/

namespace Sys2Proof.Machine

/-- How a transaction comes from the state `s` to its next state. -/
inductive Effect (s : State) : Request → State → Prop where
  | loaded {src : Source} {c : Container} (empty : s.rom = .empty)
      (read : readContainer s.cfg.checkMagic src = .ok c) :
      Effect s (.load src) (reply .loaded { s with rom := .loaded c })
  | failed {src : Source} {x : LoadError} (empty : s.rom = .empty)
      (read : readContainer s.cfg.checkMagic src = .error x) :
      Effect s (.load src) (reply (.loadError x) (takeException (.load x) s))
  | answered {r : Request} {a : Reply} (next : perform r s = .next (reply a s)) : Effect s r (reply a s)
  | created {c : Container} (loaded : s.rom = .loaded c) : Effect s .create (s.setEngine (newEngine c.prg))
  | stepped {t : State} (next : stepEngine s = .next t) : Effect s .step t
  | ran {t : State} (next : run s = .next t) : Effect s .run t
  | reset : Effect s .reset (resetBlock s)

theorem load_effect {src : Source} {s t : State} (h : load src s = .next t) : Effect s (.load src) t := by
  unfold load at h
  split at h
  · split at h <;> cases h
    · exact .loaded ‹_› ‹_›
    · exact .failed ‹_› ‹_›
  · cases h
  · cases h
  · cases h

theorem create_effect {s t : State} (h : create s = .next t) : Effect s .create t := by
  unfold create at h
  split at h <;> cases h
  exact .created ‹_›

theorem access_next {f : Container → Reply} {s t : State} (h : access f s = .next t) :
    ∃ c, s.rom = .loaded c ∧ t = reply (f c) s := by
  unfold access at h
  split at h <;> cases h
  exact ⟨_, ‹_›, rfl⟩

theorem readText_next {s t : State} (h : readText s = .next t) :
    ∃ e, s.engine = some e ∧ t = reply (.text (textOf s.cfg e.lines)) s := by
  unfold readText at h
  split at h <;> cases h
  exact ⟨_, ‹_›, rfl⟩

/-- An accessor's request is answered, and nothing else happens. -/
theorem access_effect {f : Container → Reply} {r : Request} {s t : State} (hr : perform r s = access f s)
    (h : perform r s = .next t) : Effect s r t := by
  obtain ⟨c, _, rfl⟩ := access_next (hr ▸ h)
  exact .answered h

theorem perform_effect {r : Request} {s t : State} (h : perform r s = .next t) : Effect s r t := by
  cases r with
  | load src => exact load_effect h
  | field f => exact access_effect rfl h
  | programRegion => exact access_effect rfl h
  | trainer => exact access_effect rfl h
  | graphics => exact access_effect rfl h
  | find b => cases h; exact .answered rfl
  | decode mode byte1 byte2 => cases h; exact .answered rfl
  | create => exact create_effect h
  | step => exact .stepped h
  | run => exact .ran h
  | text =>
    obtain ⟨e, _, rfl⟩ := readText_next h
    exact .answered h
  | reset => cases h; exact .reset

/-- The state with the host's requests replaced. -/
def State.withRequests (s : State) (qs : List Request) : State := { s with port := { s.port with requests := qs } }

@[simp] theorem State.withRequests_cfg (s : State) (qs : List Request) : (s.withRequests qs).cfg = s.cfg := rfl
@[simp] theorem State.withRequests_rom (s : State) (qs : List Request) : (s.withRequests qs).rom = s.rom := rfl
@[simp] theorem State.withRequests_engine (s : State) (qs : List Request) : (s.withRequests qs).engine = s.engine := rfl

/-- Everything a step of the machine can do: a step of the engine where nothing is asked for, and the effect of the
oldest request otherwise. -/
theorem step_cases {s t : State} (h : step s = .next t) :
    (s.port.requests = [] ∧ stepEngine s = .next t) ∨
    ∃ r rest, s.port.requests = r :: rest ∧ Effect (s.withRequests rest) r t := by
  unfold step at h
  split at h
  · exact .inl ⟨‹_›, h⟩
  · exact .inr ⟨_, _, ‹_›, perform_effect h⟩

end Sys2Proof.Machine
end

section
/-! PROOF. What every transaction and every step of the machine keeps of the container and of the engine. -/

namespace Sys2Proof.Machine

theorem takeException_load_rom_ne_empty (x : LoadError) (s : State) : (takeException (.load x) s).rom ≠ .empty := by
  cases x <;> nofun

/-- A transaction leaves the container as it is, unless it is a reset or the first load. -/
theorem Effect.rom {s t : State} {r : Request} (h : Effect s r t) :
    t.rom = s.rom ∨ r = .reset ∨ (s.rom = .empty ∧ t.rom ≠ .empty ∧ ∃ src, r = .load src) := by
  cases h with
  | loaded empty _ => exact .inr (.inr ⟨empty, nofun, _, rfl⟩)
  | failed empty _ => exact .inr (.inr ⟨empty, takeException_load_rom_ne_empty _ s, _, rfl⟩)
  | answered _ => exact .inl rfl
  | created _ => exact .inl rfl
  | stepped next => exact .inl (stepEngine_extended next).rom
  | ran next => exact .inl (run_extended next).rom
  | reset => exact .inr (.inl rfl)

/-- Where a container is loaded, a transaction other than `create` and a reset leaves the engine as it is or lets it go
on. A `load` that fails, which would discard it, is not possible there. -/
theorem Effect.engine {s t : State} {r : Request} {c : Container} {e : Engine} (h : Effect s r t)
    (hrom : s.rom = .loaded c) (he : s.engine = some e) (hcreate : r ≠ .create) (hreset : r ≠ .reset) :
    ∃ e', t.engine = some e' ∧ e.Extends e' := by
  cases h with
  | loaded empty _ => rw [hrom] at empty; cases empty
  | failed empty _ => rw [hrom] at empty; cases empty
  | answered _ => exact ⟨e, he, .refl e⟩
  | created _ => exact absurd rfl hcreate
  | stepped next => exact (stepEngine_extended next).engine he
  | ran next => exact (run_extended next).engine he
  | reset => exact absurd rfl hreset

theorem step_rom {s t : State} (h : step s = .next t) :
    t.rom = s.rom ∨ s.port.requests.head? = some .reset ∨
      (s.rom = .empty ∧ t.rom ≠ .empty ∧ ∃ src, s.port.requests.head? = some (.load src)) := by
  rcases step_cases h with ⟨_, hstep⟩ | ⟨r, rest, hreq, heffect⟩
  · exact .inl (stepEngine_extended hstep).rom
  · rw [hreq, List.head?_cons]
    rcases heffect.rom with hsame | rfl | ⟨hempty, hnew, src, rfl⟩
    · exact .inl hsame
    · exact .inr (.inl rfl)
    · exact .inr (.inr ⟨hempty, hnew, src, rfl⟩)

theorem step_engine {s t : State} {c : Container} {e : Engine} (h : step s = .next t) (hrom : s.rom = .loaded c)
    (he : s.engine = some e) (hcreate : s.port.requests.head? ≠ some .create)
    (hreset : s.port.requests.head? ≠ some .reset) : ∃ e', t.engine = some e' ∧ e.Extends e' := by
  rcases step_cases h with ⟨_, hstep⟩ | ⟨r, rest, hreq, heffect⟩
  · exact (stepEngine_extended hstep).engine he
  · rw [hreq, List.head?_cons] at hcreate hreset
    exact heffect.engine hrom he (fun hr => hcreate (congrArg some hr)) (fun hr => hreset (congrArg some hr))

end Sys2Proof.Machine
end

section
/-! PROOF. The engine's isolation (10_state.md R43). -/

namespace Sys2Proof.Machine

/-- The same parameters and engine beside another container and another port. -/
def State.beside (rom : Rom) (port : Port) (s : State) : State := ⟨s.cfg, rom, s.engine, port⟩

@[simp] theorem State.beside_cfg (rom : Rom) (port : Port) (s : State) : (s.beside rom port).cfg = s.cfg := rfl
@[simp] theorem State.beside_engine (rom : Rom) (port : Port) (s : State) : (s.beside rom port).engine = s.engine := rfl

/-- The outcome with a function applied to the next state, where there is one. -/
def mapNext (f : State → State) : Host.Outcome State Fault Refusal → Host.Outcome State Fault Refusal
  | .next s => .next (f s)
  | .fault r => .fault r
  | .refused r => .refused r

/-- An operation that neither reads nor writes the container or the port: beside others it does the same. -/
def Isolated (op : State → Host.Outcome State Fault Refusal) : Prop :=
  ∀ (rom : Rom) (port : Port) (s : State), op (s.beside rom port) = mapNext (State.beside rom port) (op s)

theorem Isolated.next {op : State → Host.Outcome State Fault Refusal} (h : Isolated op) {s t : State}
    (hnext : op s = .next t) (rom : Rom) (port : Port) : op (s.beside rom port) = .next (t.beside rom port) := by
  rw [h, hnext]
  rfl

theorem decodeAs_isolated (m : Mnemonic) (mode : Mode) (byte1 byte2 : Byte) :
    Isolated (decodeAs m mode byte1 byte2) := by
  intro rom port s
  simp only [decodeAs, State.beside_engine]
  cases s.engine with
  | none => rfl
  | some e =>
    dsimp only
    cases e.est with
    | exhausted => rfl
    | decoding =>
      by_cases hroom : e.prg.size - e.cursor < mode.len
      · simp only [hroom, if_true]
        rfl
      · simp only [hroom, if_false]
        cases e.prg.readBytes e.cursor mode.len <;> rfl

theorem exec_isolated (i : Instr) : Isolated (exec i) := by
  intro rom port s
  rw [exec_eq_decodeAs, exec_eq_decodeAs]
  exact decodeAs_isolated _ _ _ _ rom port s

theorem execDecoded_isolated (window : List Byte) : Isolated (execDecoded window) := by
  intro rom port s
  unfold execDecoded
  simp only [State.beside_cfg]
  split
  · exact exec_isolated _ rom port s
  · rfl
  · exact decodeAs_isolated _ _ _ _ rom port s
  · rfl
  · rfl

theorem stepEngine_isolated : Isolated stepEngine := by
  intro rom port s
  simp only [stepEngine, State.beside_engine, State.beside_cfg]
  cases s.engine with
  | none => rfl
  | some e =>
    dsimp only
    cases e.est with
    | exhausted => rfl
    | decoding =>
      by_cases hend : exhaustedAt s.cfg.table e.prg e.cursor
      · simp only [hend, if_true]
        rfl
      · simp only [hend]
        exact execDecoded_isolated _ rom port (s.setEngine e.lead)

theorem runEngine_isolated (fuel : Nat) : Isolated (runEngine fuel) := by
  intro rom port s
  induction fuel generalizing s with
  | zero => rfl
  | succ fuel ih =>
    simp only [runEngine, State.beside_engine, stepEngine_isolated rom port s]
    cases s.engine with
    | none => rfl
    | some e =>
      dsimp only
      cases e.est with
      | exhausted => rfl
      | decoding =>
        cases stepEngine s with
        | next t => exact ih t
        | fault r => rfl
        | refused r => rfl

theorem run_isolated : Isolated run := by
  intro rom port s
  have hbound : runBound (s.beside rom port) = runBound s := rfl
  simp only [run, State.beside_engine, hbound]
  cases s.engine with
  | none => rfl
  | some e => exact runEngine_isolated (runBound s) rom port s

end Sys2Proof.Machine
end

section
/-! PROOF. The invariant at reset (10_state.md R47, 70_reset_and_hazards.md R430). -/

namespace Sys2Proof.Machine

theorem default_table_settled : Table.settled Config.default.table := by decide +kernel

/-- Nothing is loaded and no engine exists at reset, so the table is all the invariant speaks of. -/
theorem resetWith_inv {cfg : Config} (h : Table.settled cfg.table) : (State.resetWith cfg).Inv :=
  ⟨h, nofun, nofun⟩

end Sys2Proof.Machine
end

section
/-! PROOF. The statements of the family 10_state.md. -/

namespace Sys2Proof.Machine

/-- Settles O34: every meaning is the shared decode, whose frame names the engine after it. -/
theorem instructionFrame : Obligations.InstructionFrame := by
  intro i s t h
  rw [exec_eq_decodeAs] at h
  obtain ⟨e, e', he, rfl, hext, hcursor⟩ := decodeAs_frame h
  exact ⟨rfl, rfl, rfl, e, e', he, rfl, fun a => by rw [hext.prg], hext.prg, hext.lines, hcursor, hext.exhausted⟩

/-- Settles O39: the fields by the arithmetic of bits and nibbles, their read-only state by what a step can do to the
container. -/
theorem headerFields : Obligations.HeaderFields := by
  refine ⟨fun f4 f5 f6 f7 f8 f9 => ?_, fun s s' c hrom hreset h => ?_⟩
  · exact ⟨bit0_toNat f6, bit_toNat f6 1, bit_toNat f6 2, bit_toNat f6 3, highNibble_toNat f6,
      bit0_toNat f7, bit_toNat f7 1, isInes2Of_iff f7, highNibble_toNat f7,
      rfl, banks_le f4 prgBank, rfl, banks_le f5 chrBank, rfl, banks_le f8 ramBank, bit0_toNat f9⟩
  · rcases step_rom h with hsame | hhead | ⟨hempty, _⟩
    · exact hsame.trans hrom
    · exact absurd hhead hreset
    · rw [hrom] at hempty; cases hempty

/-- Settles O40: the nibbles stand side by side, as a number and as the masked bytes. -/
theorem mapperNumber : Obligations.MapperNumber := by
  refine ⟨fun f4 f5 f6 f7 f8 f9 => ⟨mapperOf_toNat _ _, ?_⟩, fun f4 f5 f6 f7 f8 f9 hlow hhigh => ?_⟩
  · exact congrArg₂ (· ||| ·) (highNibble_shiftLeft f7) (highNibble_setWidth f6)
  · apply BitVec.eq_of_toNat_eq
    calc (mapperOf (mapperHighNibbleOf f7) (mapperLowNibbleOf f6)).toNat
        = 16 * (f7.toNat / 16) + f6.toNat / 16 := by
          rw [mapperOf_toNat, mapperHighNibbleOf, mapperLowNibbleOf, highNibble_toNat, highNibble_toNat]
      _ = 0x21 := by rw [hlow, hhigh]

/-- Settles O56: of the three things a step can do to the container, the first does not change it. -/
theorem containerChangesOnlyInLoad : Obligations.ContainerChangesOnlyInLoad :=
  fun _ _ h hne => (step_rom h).resolve_left hne

/-- Settles O57: under the invariant an engine stands beside a loaded container, where only `create` and a reset replace
it. -/
theorem engineOnlyGrows : Obligations.EngineOnlyGrows := by
  intro s s' e hinv he h hcreate hreset
  obtain ⟨_, _, hengine⟩ := hinv
  obtain ⟨_, c, hrom, _⟩ := hengine e he
  obtain ⟨e', he', hext⟩ := step_engine h hrom he hcreate hreset
  exact ⟨e', he', hext.prg, hext.lines, hext.cursor, hext.exhausted⟩

/-- Settles O58: both transactions are isolated. -/
theorem engineReadsOnlyItsRegion : Obligations.EngineReadsOnlyItsRegion :=
  fun _ _ rom port => ⟨fun h => stepEngine_isolated.next h rom port, fun h => run_isolated.next h rom port⟩

/-- Settles O48: the length of the default table is one of its settled facts, all else is the definition of reset. -/
theorem resetState : Obligations.ResetState := by
  obtain ⟨hlength, _⟩ := default_table_settled
  exact ⟨rfl, rfl, rfl, rfl, rfl, rfl, hlength, rfl, rfl, rfl, rfl, rfl, rfl, rfl⟩

/-- Settles O49: the default table is settled, so reset is one case of the general fact. -/
theorem resetMeetsInvariant : Obligations.ResetMeetsInvariant :=
  ⟨fun _ h => resetWith_inv h, resetWith_inv default_table_settled⟩

end Sys2Proof.Machine
end

section
/-! PROOF. The bytes a step reads are there (20_memory.md R76), so a step of a decoding engine on a region is the
pseudocode of 42_engine.md R176. -/

namespace Sys2Proof.Machine

/-! ### Offsets that are not exhausted -/

theorem lt_size_of_not_exhausted {T : List Descriptor} {prg : Memory} {c : Nat} (h : exhaustedAt T prg c = false) :
    c < prg.size := by
  by_contra hge
  rw [exhaustedAt_of_size_le (not_lt.1 hge)] at h
  cases h

/-- The whole instruction of the row found at an offset that is not exhausted lies inside the region. -/
theorem fits_of_not_exhausted {T : List Descriptor} {prg : Memory} {c : Nat} {b : Byte} {d : Descriptor}
    (h : exhaustedAt T prg c = false) (hb : prg.read c = some b) (hf : find T b = some d) :
    c + d.mode.len ≤ prg.size := by
  have hlt := lt_size_of_not_exhausted h
  rw [exhaustedAt_of_row hb hf, decide_eq_false_iff_not] at h
  omega

theorem Memory.getD_slice (m : Memory) (a : Nat) {n k : Nat} (hk : k < n) :
    (m.slice a n).getD k 0 = m.bytes.getD (a + k) 0 := by
  simp [Memory.slice, List.getD, List.getElem?_take_of_lt hk]

/-! ### The operand bytes a mode shows -/

/-- The operand text reads only the operand bytes that the mode's length leaves room for (30_encoding.md R91 to R93). -/
theorem operandText_congr {render : IndirectRender} {mode : Mode} {byte1 byte2 byte1' byte2' : Byte}
    (h1 : 2 ≤ mode.len → byte1 = byte1') (h2 : 3 ≤ mode.len → byte2 = byte2') :
    operandText render mode byte1 byte2 = operandText render mode byte1' byte2' := by
  cases mode with
  | accumulator | implied => rfl
  | immediate | zeropage | zeropageX | zeropageY | relative | indirectX | indirectY =>
    obtain rfl := h1 (by decide)
    rfl
  | absolute | absoluteX | absoluteY | indirect =>
    obtain rfl := h1 (by decide)
    obtain rfl := h2 (by decide)
    rfl

theorem decodeAs_congr {m : Mnemonic} {mode : Mode} {byte1 byte2 byte1' byte2' : Byte} (s : State)
    (h1 : 2 ≤ mode.len → byte1 = byte1') (h2 : 3 ≤ mode.len → byte2 = byte2') :
    decodeAs m mode byte1 byte2 s = decodeAs m mode byte1' byte2' s := by
  simp only [decodeAs, decodeOperand, operandText_congr h1 h2]

/-! ### The two things a step can do with the byte at the cursor -/

theorem execDecoded_of_absent {s : State} {b : Byte} (rest : List Byte) (hf : find s.cfg.table b = none) :
    execDecoded (b :: rest) s = .next (finishEngine (takeException .decodeError s)) := by
  simp only [execDecoded, decode, hf]

/-- Where all bytes of the row's instruction are there, the row is decoded by the shared decode, whether or not an
instruction is paired with it (log entry 21). -/
theorem execDecoded_of_row {s : State} {b : Byte} {rest : List Byte} {d : Descriptor}
    (hf : find s.cfg.table b = some d) (hlen : d.mode.len ≤ rest.length + 1) :
    execDecoded (b :: rest) s = decodeAs d.mnemonic d.mode (rest.getD 0 0) (rest.getD 1 0) s := by
  simp only [execDecoded, decode, hf, if_neg (not_lt.2 hlen)]
  cases hrow : Instr.ofRow d.mnemonic d.mode (rest.take (d.mode.len - 1)) with
  | none => rfl
  | some i =>
    obtain ⟨hm, hmode, hops⟩ := ofRow_fields hrow
    have hop (k : Nat) (hk : k + 2 ≤ d.mode.len) : i.operands.getD k 0 = rest.getD k 0 := by
      simp [hops, List.getD, List.getElem?_take_of_lt (show k < d.mode.len - 1 by omega)]
    dsimp only
    rw [exec_eq_decodeAs, hm, hmode]
    exact decodeAs_congr s (hop 0) (hop 1)

/-! ### One step of the engine -/

theorem Engine.lead_eq (e : Engine) : e.lead = ⟨e.prg, e.cursor, e.est, e.lines ++ leadAt e.cursor⟩ := by
  unfold Engine.lead leadAt
  split <;> simp [Engine.append]

theorem Engine.skipped_eq_finish {e : Engine} (hd : e.est = .decoding) (T : List Descriptor) :
    e.skipped T (leadAt e.cursor) = (e.lead.advance 1).finish T := by
  rw [Engine.lead_eq, hd]
  rfl

theorem Engine.recorded_eq_finish {e : Engine} {n : Nat} (hd : e.est = .decoding) (hn : e.cursor + n ≤ e.prg.size)
    (T : List Descriptor) (m : Mnemonic) (operand : Text) :
    e.recorded T n m operand =
      ((e.append (.instr e.cursor (e.prg.slice e.cursor n) m operand)).advance n).finish T := by
  rw [← Engine.emit_eq_recorded hd hn, Engine.emit, Memory.slice_length hn]

/-- What the pseudocode of R176 does, by what stands at the cursor. -/
theorem Engine.ruleStep_of_exhausted {cfg : Config} {e : Engine} (h : exhaustedAt cfg.table e.prg e.cursor = true) :
    e.ruleStep cfg = e.lead.exhaust := by
  rw [Engine.ruleStep, if_pos h, Engine.lead_eq]
  rfl

theorem Engine.ruleStep_of_absent {cfg : Config} {e : Engine} {b : Byte}
    (h : exhaustedAt cfg.table e.prg e.cursor = false) (hb : e.prg.bytes[e.cursor]? = some b)
    (hf : find cfg.table b = none) : e.ruleStep cfg = e.skipped cfg.table (leadAt e.cursor) := by
  simp only [Engine.ruleStep, h, hb, Option.bind_some, hf]
  rfl

theorem Engine.ruleStep_of_row {cfg : Config} {e : Engine} {b : Byte} {d : Descriptor}
    (h : exhaustedAt cfg.table e.prg e.cursor = false) (hb : e.prg.bytes[e.cursor]? = some b)
    (hf : find cfg.table b = some d) :
    e.ruleStep cfg = e.lead.recorded cfg.table d.mode.len d.mnemonic
      (operandText cfg.indirectRender d.mode (e.prg.bytes.getD (e.cursor + 1) 0)
        (e.prg.bytes.getD (e.cursor + 2) 0)) := by
  simp only [Engine.ruleStep, h, hb, Option.bind_some, hf, Engine.lead_eq]
  rfl

/-- A step of a decoding engine on a region is the pseudocode of R176. The case split is the rule's own: exhausted,
unrecognised byte, recognised instruction, whose bytes are all there as the cursor is not exhausted. -/
theorem stepEngine_eq_ruleStep {s : State} {e : Engine} (he : s.engine = some e) (hd : e.est = .decoding)
    (hr : e.prg.isRegion) : stepEngine s = .next (s.setEngine (e.ruleStep s.cfg)) := by
  simp only [stepEngine, he, hd]
  cases hexh : exhaustedAt s.cfg.table e.prg e.cursor with
  | true => rw [if_pos rfl, Engine.ruleStep_of_exhausted hexh]
  | false =>
    obtain ⟨b, hread, hb⟩ := byte_of_not_exhausted hr hexh
    rw [if_neg Bool.false_ne_true, hr.window, e.prg.slice_succ e.cursor 2 hb]
    cases hf : find s.cfg.table b with
    | none =>
      rw [execDecoded_of_absent (s := s.setEngine e.lead) _ hf, Engine.ruleStep_of_absent hexh hb hf,
        Engine.skipped_eq_finish hd]
      rfl
    | some d =>
      have hfits := fits_of_not_exhausted hexh hread hf
      have hwindow : d.mode.len ≤ (e.prg.slice (e.cursor + 1) 2).length + 1 := by
        have := Mode.len_le_three d.mode
        simp only [Memory.slice, List.length_take, List.length_drop, Memory.bytes_length]
        omega
      rw [execDecoded_of_row (s := s.setEngine e.lead) hf hwindow, e.prg.getD_slice _ (by decide),
        e.prg.getD_slice _ (by decide), Engine.ruleStep_of_row hexh hb hf]
      exact decodeAs_of_fits rfl (e.lead_est.trans hd) (e.lead_prg ▸ hr) (by rwa [e.lead_cursor, e.lead_prg])

end Sys2Proof.Machine
end

section
/-! PROOF. The engine's invariant (42_engine.md R190) is kept by a step and by a run, and neither faults. -/

namespace Sys2Proof.Machine

/-- The engine after the leading marker, which a step puts in front at offset 0: its records are those of the sweep. -/
theorem Engine.Inv.lead_swept {cfg : Config} {e : Engine} (h : e.Inv cfg) (hd : e.est = .decoding) :
    ∃ ls k, e.lead = ⟨e.prg, e.cursor, .decoding, .lead :: ls⟩ ∧ Swept cfg e.prg e.cursor ls k := by
  obtain ⟨_, _, hest⟩ := h
  rw [hd] at hest
  rw [Engine.lead_eq, hd]
  rcases hest with ⟨hzero, hlines⟩ | ⟨hne, _, ls, k, hlines, hswept⟩
  · refine ⟨[], 0, by simp [hzero, hlines, leadAt], ?_⟩
    rw [hzero]
    exact .start
  · exact ⟨ls, k, by simp [hlines, leadAt, hne], hswept⟩

/-- The sweep's records and the trailing marker make an exhausted engine that meets the invariant. -/
theorem Engine.exhaust_inv {cfg : Config} {e : Engine} {ls : List Line} {k : Nat} (hr : e.prg.isRegion)
    (hc : e.cursor ≤ e.prg.size) (hexh : exhaustedAt cfg.table e.prg e.cursor = true) (hlines : e.lines = .lead :: ls)
    (hswept : Swept cfg e.prg e.cursor ls k) : e.exhaust.Inv cfg :=
  ⟨hr, hc, hexh, ls, k, by rw [Engine.exhaust_lines, hlines]; rfl, hswept⟩

/-- The final check of a step, taken past offset 0, ends in an engine that meets the invariant. -/
theorem Engine.finish_inv {cfg : Config} {e : Engine} {ls : List Line} {k : Nat} (hd : e.est = .decoding)
    (hr : e.prg.isRegion) (hc : e.cursor ≤ e.prg.size) (hne : e.cursor ≠ 0) (hlines : e.lines = .lead :: ls)
    (hswept : Swept cfg e.prg e.cursor ls k) : (e.finish cfg.table).Inv cfg := by
  rw [Engine.finish_eq]
  split
  next hexh => exact exhaust_inv hr hc hexh hlines hswept
  next hexh =>
    refine ⟨hr, hc, ?_⟩
    rw [hd]
    exact .inr ⟨hne, Bool.eq_false_iff.2 hexh, ls, k, hlines, hswept⟩

/-- One step of the rule goes one step further in the sweep. -/
theorem Engine.Inv.ruleStep {cfg : Config} {e : Engine} (h : e.Inv cfg) (hd : e.est = .decoding) :
    (e.ruleStep cfg).Inv cfg := by
  obtain ⟨ls, k, hlead, hswept⟩ := h.lead_swept hd
  obtain ⟨hr, hc, _⟩ := h
  cases hexh : exhaustedAt cfg.table e.prg e.cursor with
  | true =>
    rw [Engine.ruleStep_of_exhausted hexh, hlead]
    exact Engine.exhaust_inv hr hc hexh rfl hswept
  | false =>
    obtain ⟨b, hread, hb⟩ := byte_of_not_exhausted hr hexh
    cases hf : find cfg.table b with
    | none =>
      rw [Engine.ruleStep_of_absent hexh hb hf, Engine.skipped_eq_finish hd, hlead]
      exact Engine.finish_inv rfl hr (lt_size_of_not_exhausted hexh) (Nat.succ_ne_zero _) rfl (hswept.skip hb hf)
    | some d =>
      have hfits := fits_of_not_exhausted hexh hread hf
      have hne : e.cursor + d.mode.len ≠ 0 := by
        have := Mode.len_pos d.mode
        omega
      rw [Engine.ruleStep_of_row hexh hb hf, hlead, Engine.recorded_eq_finish (e := ⟨_, _, _, _⟩) rfl hfits]
      exact Engine.finish_inv rfl hr hfits hne rfl (hswept.instr hb hf hfits)

/-! ### A step and a run of the engine -/

/-- The engine transaction answers a next state, in which only the engine has changed: it decodes the same region and
meets the invariant. -/
def EngineKept (s : State) (e : Engine) (o : Host.Outcome State Fault Refusal) : Prop :=
  ∃ e', o = .next (s.setEngine e') ∧ e'.Inv s.cfg ∧ e'.prg = e.prg

theorem EngineKept.refl {s : State} {e : Engine} (he : s.engine = some e) (hinv : e.Inv s.cfg) :
    EngineKept s e (.next s) :=
  ⟨e, by rw [State.setEngine_self he], hinv, rfl⟩

theorem stepEngine_kept {s : State} {e : Engine} (he : s.engine = some e) (hinv : e.Inv s.cfg) :
    EngineKept s e (stepEngine s) := by
  cases hd : e.est with
  | exhausted =>
    have hstay : stepEngine s = .next s := by simp only [stepEngine, he, hd]
    rw [hstay]
    exact .refl he hinv
  | decoding =>
    have ⟨hr, _⟩ := hinv
    have hnext := stepEngine_eq_ruleStep he hd hr
    obtain ⟨e', he', hext⟩ := (stepEngine_extended hnext).engine he
    obtain rfl : e.ruleStep s.cfg = e' := Option.some.inj he'
    exact ⟨_, hnext, hinv.ruleStep hd, hext.prg⟩

theorem runEngine_kept (fuel : Nat) {s : State} {e : Engine} (he : s.engine = some e) (hinv : e.Inv s.cfg) :
    EngineKept s e (runEngine fuel s) := by
  induction fuel generalizing s e with
  | zero => exact .refl he hinv
  | succ fuel ih =>
    simp only [runEngine, he]
    cases hd : e.est with
    | exhausted => exact .refl he hinv
    | decoding =>
      obtain ⟨e', hnext, hinv', hprg⟩ := stepEngine_kept he hinv
      obtain ⟨e'', hrun, hinv'', hprg'⟩ := ih (s := s.setEngine e') rfl hinv'
      simp only [hnext]
      exact ⟨e'', hrun, hinv'', hprg'.trans hprg⟩

theorem run_kept {s : State} {e : Engine} (he : s.engine = some e) (hinv : e.Inv s.cfg) :
    EngineKept s e (run s) := by
  simp only [run, he]
  exact runEngine_kept _ he hinv

end Sys2Proof.Machine
end

section
/-! PROOF. The machine's invariant is kept by every transaction, and no transaction faults under it (20_memory.md R72,
R76). -/

namespace Sys2Proof.Machine

/-! ### A step of the machine, by what the host has asked for -/

/-- A step of the machine with the host's oldest request waiting is that transaction on the state without it. -/
theorem step_of_request {s : State} {q : Request} {rest : List Request} (h : s.port.requests = q :: rest) :
    step s = perform q (s.withRequests rest) := by
  simp only [step, h]
  rfl

theorem step_of_no_request {s : State} (h : s.port.requests = []) : step s = stepEngine s := by
  simp only [step, h]

/-! ### The container a load builds -/

theorem headerOf_inv {f : List Byte} {h : Header} (hh : headerOf f = some h) : h.Inv := by
  unfold headerOf at hh
  split at hh <;> cases hh
  exact ⟨_, _, _, _, _, _, rfl⟩

theorem ofBytes_slice_size {f : List Byte} {a n : Nat} (h : a + n ≤ f.length) :
    (Memory.ofBytes (slice f a n)).size = n := by
  simp only [Memory.ofBytes_size, slice, List.length_take, List.length_drop]
  omega

/-- The body length check leaves room for the three slices. -/
theorem containerOf_inv {h : Header} {f : List Byte} (hinv : h.Inv) (hlen : h.declaredLength ≤ f.length) :
    (containerOf h f).Inv := by
  obtain ⟨htrn, hprg, hchr⟩ := containerOf_isRegion h f
  simp only [Header.declaredLength] at hlen
  exact ⟨hinv, htrn, hprg, hchr, ofBytes_slice_size (by omega), ofBytes_slice_size (by omega),
    ofBytes_slice_size (by omega)⟩

theorem readContainer_inv {checkMagic : Bool} {src : Source} {c : Container}
    (h : readContainer checkMagic src = .ok c) : c.Inv := by
  unfold readContainer at h
  split at h
  · cases h
  split at h
  · cases h
  next hh =>
  split at h
  · cases h
  split at h
  · cases h
  next hlen =>
  cases h
  exact containerOf_inv (headerOf_inv hh) (not_lt.1 hlen)

/-! ### The invariant -/

/-- Without an engine the invariant speaks of the table and the container alone. -/
theorem State.inv_of_no_engine {s : State} (htable : Table.settled s.cfg.table)
    (hrom : ∀ c, s.rom = .loaded c → c.Inv) (he : s.engine = none) : s.Inv :=
  ⟨htable, hrom, fun e h => by rw [he] at h; cases h⟩

theorem State.Inv.engine {s : State} {e : Engine} (h : s.Inv) (he : s.engine = some e) :
    e.Inv s.cfg ∧ ∃ c, s.rom = .loaded c ∧ e.prg = c.prg := by
  obtain ⟨_, _, hengine⟩ := h
  exact hengine e he

theorem State.Inv.engine_inv {s : State} {e : Engine} (h : s.Inv) (he : s.engine = some e) : e.Inv s.cfg :=
  (h.engine he).left

/-- An engine stands only beside a loaded container. -/
theorem State.Inv.no_engine {s : State} (h : s.Inv) (hrom : s.rom = .empty) : s.engine = none := by
  by_contra hne
  obtain ⟨e, he⟩ := Option.ne_none_iff_exists'.1 hne
  obtain ⟨_, c, hc, _⟩ := h.engine he
  rw [hrom] at hc
  cases hc

theorem State.Inv.setEngine {s : State} {c : Container} {e : Engine} (h : s.Inv) (hc : s.rom = .loaded c)
    (hinv : e.Inv s.cfg) (hprg : e.prg = c.prg) : (s.setEngine e).Inv := by
  obtain ⟨htable, hrom, _⟩ := h
  refine ⟨htable, hrom, fun e' he' => ?_⟩
  obtain rfl : e = e' := Option.some.inj he'
  exact ⟨hinv, c, hc, hprg⟩

theorem newEngine_inv (cfg : Config) {prg : Memory} (hr : prg.isRegion) : (newEngine prg).Inv cfg :=
  ⟨hr, Nat.zero_le _, .inl ⟨rfl, rfl⟩⟩

theorem EngineKept.inv {s t : State} {e : Engine} {o : Host.Outcome State Fault Refusal} (h : EngineKept s e o)
    (hinv : s.Inv) (he : s.engine = some e) (ht : o = .next t) : t.Inv := by
  obtain ⟨e', hnext, hinv', hprg⟩ := h
  obtain ⟨_, c, hc, hprg'⟩ := hinv.engine he
  obtain rfl : s.setEngine e' = t := by rw [hnext] at ht; cases ht; rfl
  exact hinv.setEngine hc hinv' (hprg.trans hprg')

/-- Every transaction keeps the invariant. -/
theorem Effect.inv {s t : State} {q : Request} (h : Effect s q t) (hinv : s.Inv) : t.Inv := by
  have ⟨htable, hrom, _⟩ := hinv
  cases h with
  | @loaded _ c empty read =>
    refine State.inv_of_no_engine htable (fun c' hc' => ?_) (hinv.no_engine empty)
    obtain rfl : c = c' := Rom.loaded.inj hc'
    exact readContainer_inv read
  | @failed _ x _ _ =>
    refine State.inv_of_no_engine (by simpa) ?_ (by simp)
    cases x <;> nofun
  | answered _ => exact hinv
  | created loaded =>
    obtain ⟨_, _, hr, _⟩ := hrom _ loaded
    exact hinv.setEngine loaded (newEngine_inv s.cfg hr) rfl
  | stepped next =>
    obtain ⟨e, _, he, _⟩ := stepEngine_extended next
    exact (stepEngine_kept he (hinv.engine_inv he)).inv hinv he next
  | ran next =>
    obtain ⟨e, _, he, _⟩ := run_extended next
    exact (run_kept he (hinv.engine_inv he)).inv hinv he next
  | reset => exact State.inv_of_no_engine htable nofun rfl

theorem step_inv {s t : State} (hinv : s.Inv) (h : step s = .next t) : t.Inv := by
  rcases step_cases h with ⟨_, hstep⟩ | ⟨q, rest, _, heffect⟩
  · exact Effect.inv (.stepped hstep) hinv
  · exact heffect.inv hinv

/-- The invariant's induction over the runs a host can drive. -/
theorem Reachable.inv {s : State} (h : Reachable s) : s.Inv := by
  induction h with
  | reset cfg table => exact resetWith_inv table
  | ask q before ih => exact ih
  | step before next ih => exact step_inv ih next

/-! ### No fault -/

theorem access_ne_fault (f : Container → Reply) (s : State) (x : Fault) : access f s ≠ .fault x := by
  unfold access
  split <;> nofun

theorem load_ne_fault (src : Source) (s : State) (x : Fault) : load src s ≠ .fault x := by
  unfold load
  split
  · split <;> nofun
  all_goals nofun

theorem create_ne_fault (s : State) (x : Fault) : create s ≠ .fault x := by
  unfold create
  split <;> nofun

theorem readText_ne_fault (s : State) (x : Fault) : readText s ≠ .fault x := by
  unfold readText
  split <;> nofun

theorem EngineKept.ne_fault {s : State} {e : Engine} {o : Host.Outcome State Fault Refusal} (h : EngineKept s e o)
    (x : Fault) : o ≠ .fault x := by
  obtain ⟨_, rfl, _⟩ := h
  nofun

/-- Without an engine its transactions are refused; with one that meets the invariant they complete. -/
theorem stepEngine_ne_fault {s : State} (hinv : s.Inv) (x : Fault) : stepEngine s ≠ .fault x := by
  cases he : s.engine with
  | none => simp [stepEngine, he]
  | some e => exact (stepEngine_kept he (hinv.engine_inv he)).ne_fault x

theorem run_ne_fault {s : State} (hinv : s.Inv) (x : Fault) : run s ≠ .fault x := by
  cases he : s.engine with
  | none => simp [run, he]
  | some e => exact (run_kept he (hinv.engine_inv he)).ne_fault x

theorem perform_ne_fault {s : State} (hinv : s.Inv) (q : Request) (x : Fault) : perform q s ≠ .fault x := by
  cases q with
  | load src => exact load_ne_fault src s x
  | field _ | programRegion | trainer | graphics => exact access_ne_fault _ s x
  | find _ | decode _ _ _ | reset => nofun
  | create => exact create_ne_fault s x
  | step => exact stepEngine_ne_fault hinv x
  | run => exact run_ne_fault hinv x
  | text => exact readText_ne_fault s x

theorem step_ne_fault {s : State} (hinv : s.Inv) (x : Fault) : step s ≠ .fault x := by
  cases hreq : s.port.requests with
  | nil => rw [step_of_no_request hreq]; exact stepEngine_ne_fault hinv x
  | cons q rest => rw [step_of_request hreq]; exact perform_ne_fault (s := s.withRequests rest) hinv q x

end Sys2Proof.Machine
end

section
/-! PROOF. The statements of the family 20_memory.md. -/

namespace Sys2Proof.Machine

/-- Settles O52: a fault would be a read of a missing byte, and an offset that is not exhausted has all the bytes of the
instruction found there. -/
theorem readsStayInBounds : Obligations.ReadsStayInBounds := by
  refine ⟨fun s q hinv x => ⟨step_ne_fault hinv x, perform_ne_fault hinv q x⟩, fun s e hinv he hexh => ?_⟩
  obtain ⟨hr, _⟩ := hinv.engine_inv he
  obtain ⟨b, hb, _⟩ := byte_of_not_exhausted hr hexh
  refine ⟨b, lt_size_of_not_exhausted hexh, hb, fun d hf k hk => ?_⟩
  have hfits := fits_of_not_exhausted hexh hb hf
  have hlt : e.cursor + k < e.prg.size := by omega
  obtain ⟨x, hx, _⟩ := hr.read_of_lt hlt
  exact ⟨hlt, x, hx⟩

/-- Settles O51: every reachable state meets the invariant, by induction on the run, and under it no step faults. -/
theorem reachableStatesAreSafe : Obligations.ReachableStatesAreSafe :=
  fun _ h => ⟨h.inv, step_ne_fault h.inv⟩

/-- Settles O59: the definitions of a step and of a reset. -/
theorem stepTakesOldestRequest : Obligations.StepTakesOldestRequest :=
  ⟨fun _ _ _ h => step_of_request h, fun _ => rfl⟩

end Sys2Proof.Machine
end

section
/-! PROOF. What the decoder and the encoder answer, in one spelling (30_encoding.md R90 to R95): an opcode byte that the
table gives to a row of the instruction, then the instruction's operand bytes. -/

namespace Sys2Proof.Machine

/-! ### An instruction and its parts -/

theorem pairing_of_instr (i : Instr) : Laws.Pairing.Statement i := by
  cases i <;> exact ⟨rfl, rfl⟩

theorem ofRow_self (i : Instr) : Instr.ofRow i.mnemonic i.mode i.operands = some i := (pairing_of_instr i).left

theorem operands_length (i : Instr) : i.operands.length = i.mode.len - 1 :=
  Nat.eq_sub_of_add_eq (pairing_of_instr i).right

/-! ### Rows -/

/-- The row `d` is one of the instruction `i`. -/
def IsRowOf (d : Descriptor) (i : Instr) : Prop := d.mnemonic = i.mnemonic ∧ d.mode = i.mode

theorem opcode_of_find {T : List Descriptor} {b : Byte} {d : Descriptor} (h : find T b = some d) : d.opcode = b :=
  beq_iff_eq.1 (List.find?_some (p := fun x : Descriptor => x.opcode == b) h)

/-- A row that `find` answers makes its instruction well formed. -/
theorem wf_of_find {T : List Descriptor} {b : Byte} {d : Descriptor} {i : Instr} (h : find T b = some d)
    (hi : IsRowOf d i) : i.wf T :=
  ⟨d, List.mem_of_find?_eq_some h, hi, (opcode_of_find h).symm ▸ h⟩

/-- Without a mnemonic and mode twice, at most one opcode byte leads to an instruction. -/
theorem opcode_unique {T : List Descriptor} (hT : (T.map (fun d => (d.mnemonic, d.mode))).Nodup) {i : Instr}
    {b b' : Byte} {d d' : Descriptor} (hf : find T b = some d) (hf' : find T b' = some d') (hi : IsRowOf d i)
    (hi' : IsRowOf d' i) : b = b' := by
  have hrow : d = d' := List.inj_on_of_nodup_map hT (List.mem_of_find?_eq_some hf) (List.mem_of_find?_eq_some hf')
    (Prod.ext (hi.left.trans hi'.left.symm) (hi.right.trans hi'.right.symm))
  rw [← opcode_of_find hf, ← opcode_of_find hf', hrow]

/-! ### The decoder -/

theorem decode_eq_instr_iff {T : List Descriptor} {bs rest : List Byte} {i : Instr} :
    decode T bs = .instr i rest ↔ ∃ b d, bs = b :: i.operands ++ rest ∧ find T b = some d ∧ IsRowOf d i := by
  constructor
  · intro h
    have hcases := decode_cases T bs
    simp only [h, reduceCtorEq, and_false, or_false, false_or] at hcases
    obtain ⟨b, tail, rfl, d, hf, _, j, hj, hdec⟩ := hcases
    cases hdec
    obtain ⟨hm, hmode, hops⟩ := ofRow_fields hj
    exact ⟨b, d, by rw [hops, List.cons_append, List.take_append_drop], hf, hm.symm, hmode.symm⟩
  · rintro ⟨b, ⟨opcode, _, _, cycles, tag⟩, rfl, hf, rfl, rfl⟩
    have hlen := operands_length i
    have hfits : ¬ (i.operands ++ rest).length + 1 < i.mode.len := by
      rw [List.length_append]
      omega
    simp only [decode, List.cons_append, hf, if_neg hfits, List.take_left' hlen, List.drop_left' hlen, ofRow_self]

/-! ### The encoder -/

theorem opcodeOf_isSome {T : List Descriptor} {i : Instr} (h : i.wf T) :
    (opcodeOf T i.mnemonic i.mode).isSome = true := by
  obtain ⟨d, hmem, ⟨hm, hmode⟩, hf⟩ := h
  rw [opcodeOf, Option.isSome_map, List.find?_isSome]
  exact ⟨d, hmem, by simp [hm, hmode, find, hf]⟩

theorem row_of_opcodeOf {T : List Descriptor} {i : Instr} {b : Byte} (h : opcodeOf T i.mnemonic i.mode = some b) :
    ∃ d, find T b = some d ∧ IsRowOf d i := by
  obtain ⟨d, hd, rfl⟩ := Option.map_eq_some_iff.1 h
  have hrow := List.find?_some hd
  simp only [Bool.and_eq_true, beq_iff_eq] at hrow
  obtain ⟨hi, hf⟩ := hrow
  exact ⟨d, hf, hi⟩

theorem encode_of_wf {T : List Descriptor} {i : Instr} (h : i.wf T) :
    ∃ b d, encode T i = b :: i.operands ∧ find T b = some d ∧ IsRowOf d i := by
  obtain ⟨b, hb⟩ := Option.isSome_iff_exists.1 (opcodeOf_isSome h)
  obtain ⟨d, hf, hi⟩ := row_of_opcodeOf hb
  exact ⟨b, d, by rw [encode, hb], hf, hi⟩

/-! ### The named tables -/

theorem named_table_rows_nodup (n : TableName) : (n.rows.map (fun d => (d.mnemonic, d.mode))).Nodup := by
  rcases n with (_ | _) | _
  case asTranscribed.zpxFirst => decide +kernel
  case asTranscribed.absyFirst => decide +kernel
  case canonical => decide +kernel

end Sys2Proof.Machine
end

section
/-! PROOF. The statements of the family 30_encoding.md. -/

namespace Sys2Proof.Machine

/-- Settles O3: the encoder writes the opcode byte of a row of the instruction and its operand bytes, which is what the
decoder reads it from. -/
theorem decodeEncodeRoundTrip : Obligations.DecodeEncodeRoundTrip := by
  intro T i rest hwf
  obtain ⟨b, d, henc, hf, hi⟩ := encode_of_wf hwf
  exact decode_eq_instr_iff.2 ⟨b, d, by rw [henc], hf, hi⟩

/-- Settles O4: the decoder and the encoder may use two rows of an instruction, and a table without a mnemonic and mode
twice has but one. -/
theorem encodeDecodeRoundTrip : Obligations.EncodeDecodeRoundTrip := by
  refine ⟨fun T bs rest i hT hdec => ?_, named_table_rows_nodup⟩
  obtain ⟨b, d, rfl, hf, hi⟩ := decode_eq_instr_iff.1 hdec
  obtain ⟨b', d', henc, hf', hi'⟩ := encode_of_wf (wf_of_find hf hi)
  rw [henc, opcode_unique hT hf hf' hi hi']

/-- Settles O1: the decoder run on each of the words. -/
theorem specWordsDecode : Obligations.SpecWordsDecode := by
  unfold Obligations.SpecWordsDecode
  decide +kernel

end Sys2Proof.Machine
end

section
/-! PROOF. What `load` reads from a file (40_rom_container.md R120 to R136) and what the accessors answer (R143): one
rule for the header, one for each check and slice, one for each transaction. -/

namespace Sys2Proof.Machine

/-! ### The header of a file -/

/-- The header that the bytes 4 to 9 of a file make (R125). -/
def Header.ofFile (f : List Byte) : Header :=
  Header.ofBytes (f.getD 4 0) (f.getD 5 0) (f.getD 6 0) (f.getD 7 0) (f.getD 8 0) (f.getD 9 0)

theorem headerOf_of_length {f : List Byte} (hlen : 16 ≤ f.length) : headerOf f = some (Header.ofFile f) := by
  iterate 16
    obtain _ | ⟨_, f⟩ := f
    · simp at hlen
  rfl

theorem hasTrainerOf_eq_one_iff (f6 : Byte) : hasTrainerOf f6 = 1#1 ↔ f6.getLsbD 2 = true := by
  rw [hasTrainerOf, ← BitVec.toNat_inj, bit_toNat, BitVec.getLsbD, Nat.testBit_eq_decide_div_mod_eq, decide_eq_true_iff]
  rfl

theorem Header.ofFile_trainerSize (f : List Byte) :
    (Header.ofFile f).trainerSize = if (f.getD 6 0).getLsbD 2 then 512 else 0 :=
  if_congr (hasTrainerOf_eq_one_iff _) rfl rfl

/-! ### The regions of a file -/

/-- A slice that starts where a front of the file ends makes it a longer front. -/
theorem take_append_slice (f : List Byte) (a n : Nat) : f.take a ++ slice f a n = f.take (a + n) :=
  List.take_add.symm

/-- The header's 16 bytes and the three regions are the front of the file that the header declares (R145). -/
theorem containerOf_bytes (h : Header) (f : List Byte) :
    f.take headerLen ++ (containerOf h f).trn.bytes ++ (containerOf h f).prg.bytes ++ (containerOf h f).chr.bytes =
      f.take h.declaredLength := by
  simp only [containerOf, Memory.ofBytes_bytes, take_append_slice, Header.declaredLength]

theorem Header.Inv.programSizeBytes {h : Header} (hinv : h.Inv) :
    16384 ∣ h.programSizeBytes ∧ h.programSizeBytes ≤ 4177920 := by
  obtain ⟨f4, _, _, _, _, _, rfl⟩ := hinv
  exact ⟨Dvd.intro_left f4.toNat rfl, banks_le f4 prgBank⟩

theorem Header.Inv.graphicsSizeBytes {h : Header} (hinv : h.Inv) :
    8192 ∣ h.graphicsSizeBytes ∧ h.graphicsSizeBytes ≤ 2088960 := by
  obtain ⟨_, f5, _, _, _, _, rfl⟩ := hinv
  exact ⟨Dvd.intro_left f5.toNat rfl, banks_le f5 chrBank⟩

/-! ### The transactions -/

/-- A file is read where its header, the signature where it is checked, and its length are in order (R120, R411). -/
theorem readContainer_eq_ok_iff {checkMagic : Bool} {f : List Byte} {c : Container} :
    readContainer checkMagic (.bytes f) = .ok c ↔
      ∃ h, headerOf f = some h ∧ (checkMagic = true → f.take 4 = magic) ∧ h.declaredLength ≤ f.length ∧
        containerOf h f = c := by
  rw [readContainer]
  cases headerOf f with
  | none => simp
  | some h =>
    have hchecked : (checkMagic && f.take 4 != magic) = true ↔ ¬(checkMagic = true → f.take 4 = magic) := by simp
    simp only [hchecked, Option.some.injEq, exists_eq_left']
    split_ifs with hmagic hlen
    · exact iff_of_false nofun fun ⟨_, hfits, _⟩ => not_lt.2 hfits hlen
    · exact ⟨fun hok => ⟨hmagic, not_lt.1 hlen, Except.ok.inj hok⟩, fun ⟨_, _, hc⟩ => congrArg _ hc⟩
    · exact iff_of_false nofun fun ⟨hsigned, _⟩ => hmagic hsigned

/-- An empty container is loaded from a file that can be read, and nothing else changes but the answer (R136). -/
theorem load_of_readContainer_eq_ok {s : State} {src : Source} {c : Container} (hrom : s.rom = .empty)
    (hread : readContainer s.cfg.checkMagic src = .ok c) :
    load src s = .next (reply .loaded ⟨s.cfg, .loaded c, s.engine, s.port⟩) := by
  simp only [load, hrom, hread]

theorem takeException_load_rom_ne_loaded (x : LoadError) (s : State) (c : Container) :
    (takeException (.load x) s).rom ≠ .loaded c := by
  cases x <;> nofun

/-- The container that stands after a load is the one the file was read as. -/
theorem readContainer_of_load {s t : State} {src : Source} {c : Container} (hempty : s.rom = .empty)
    (h : load src s = .next t) (hrom : t.rom = .loaded c) : readContainer s.cfg.checkMagic src = .ok c := by
  cases load_effect h with
  | loaded _ hread => cases hrom; exact hread
  | failed _ _ => exact absurd hrom (takeException_load_rom_ne_loaded _ s c)
  | answered _ => cases hempty.symm.trans hrom

theorem access_of_loaded {f : Container → Reply} {s : State} {c : Container} (hrom : s.rom = .loaded c) :
    access f s = .next (reply (f c) s) := by
  simp only [access, hrom]

end Sys2Proof.Machine
end

section
/-! PROOF. The statements of the family 40_rom_container.md. -/

namespace Sys2Proof.Machine

/-- Settles O37: a file that passes the checks is read as the container of its header, whose buffers are the slices. -/
theorem loadSlicesTheFile : Obligations.LoadSlicesTheFile := by
  intro s f hrom hheader hmagic t p g hlen
  have ht : (Header.ofFile f).trainerSize = t := Header.ofFile_trainerSize f
  have hread : readContainer s.cfg.checkMagic (.bytes f) = .ok (containerOf (Header.ofFile f) f) := by
    refine readContainer_eq_ok_iff.2 ⟨_, headerOf_of_length hheader, hmagic, ?_, rfl⟩
    rw [Header.declaredLength, ht]
    exact hlen
  refine ⟨_, load_of_readContainer_eq_ok hrom hread, rfl, ?_, ?_, ?_, containerOf_isRegion _ f⟩ <;>
    rw [← ht] <;> exact Memory.ofBytes_bytes _

/-- Settles O38: what is read is the container of the file's header, whose buffers have the declared lengths and stand
one after another in the file. -/
theorem regionLengths : Obligations.RegionLengths := by
  intro s s' f c hempty hload hrom
  have hread := readContainer_of_load hempty hload hrom
  obtain ⟨hinv, -, -, -, htrn, hprg, hchr⟩ := readContainer_inv hread
  obtain ⟨h, -, -, hlen, rfl⟩ := readContainer_eq_ok_iff.1 hread
  obtain ⟨hprgBanks, hprgLe⟩ := hinv.programSizeBytes
  obtain ⟨hchrBanks, hchrLe⟩ := hinv.graphicsSizeBytes
  have hdeclared : 16 + (containerOf h f).trn.size + (containerOf h f).prg.size + (containerOf h f).chr.size =
      h.declaredLength := by
    rw [htrn, hprg, hchr]
    rfl
  exact ⟨by omega, htrn, hprg, hchr, hprg ▸ hprgBanks, hprg ▸ hprgLe, hchr ▸ hchrBanks, hchr ▸ hchrLe,
    hdeclared ▸ containerOf_bytes h f⟩

/-- Settles O41: every accessor is answered from the loaded container. -/
theorem accessorsAnswer : Obligations.AccessorsAnswer := by
  intro s c hrom
  have hfield (n : FieldName) : perform (.field n) s = .next (reply (.field (c.hdr.field n)) s) :=
    access_of_loaded hrom
  exact ⟨hfield .mirroring, hfield .hasPersistentRam, hfield .hasTrainer, hfield .fourScreen,
    hfield .mapperLowNibble, hfield .vsUnisystem, hfield .playchoice10, hfield .isInes2,
    hfield .mapperHighNibble, hfield .mapper, hfield .programSizeBytes, hfield .graphicsSizeBytes,
    hfield .programRamSizeBytes, hfield .tvSystem,
    access_of_loaded hrom, access_of_loaded hrom, access_of_loaded hrom⟩

end Sys2Proof.Machine
end

section
/-! PROOF. The look-up of 41_instruction_table.md R156, the named tables of R160 and R163, and which rows of a table
`find` can answer. -/

namespace Sys2Proof.Machine

/-! ### find -/

theorem find_eq_some_iff {T : List Descriptor} {b : Byte} {d : Descriptor} :
    find T b = some d ↔
      ∃ k, T[k]? = some d ∧ d.opcode = b ∧ ∀ (j : Nat) (x : Descriptor), j < k → T[j]? = some x → x.opcode ≠ b := by
  rw [find, List.find?_eq_some_iff_getElem]
  constructor
  · rintro ⟨hb, k, hk, hd, hlower⟩
    refine ⟨k, List.getElem?_eq_some_iff.2 ⟨hk, hd⟩, beq_iff_eq.1 hb, fun j x hj hx => ?_⟩
    obtain ⟨_, rfl⟩ := List.getElem?_eq_some_iff.1 hx
    simpa using hlower j hj
  · rintro ⟨k, hget, hb, hlower⟩
    obtain ⟨hk, hd⟩ := List.getElem?_eq_some_iff.1 hget
    refine ⟨beq_iff_eq.2 hb, k, hk, hd, fun j hj => ?_⟩
    simpa using hlower j _ hj (List.getElem?_eq_getElem (hj.trans hk))

theorem find_eq_none_iff {T : List Descriptor} {b : Byte} :
    find T b = none ↔ ∀ (k : Nat) (x : Descriptor), T[k]? = some x → x.opcode ≠ b := by
  simp only [find, List.find?_eq_none, List.mem_iff_getElem?, beq_iff_eq, forall_exists_index, ne_eq]
  exact forall_comm

/-- Where no opcode byte stands twice, no row is shadowed. -/
theorem find_of_resolved {T : List Descriptor} (hT : Table.resolved T) {d : Descriptor} (hd : d ∈ T) :
    find T d.opcode = some d := by
  have hsome : (find T d.opcode).isSome = true := List.find?_isSome.2 ⟨d, hd, beq_self_eq_true _⟩
  obtain ⟨d', hf⟩ := Option.isSome_iff_exists.1 hsome
  rwa [List.inj_on_of_nodup_map hT (List.mem_of_find?_eq_some hf) hd (opcode_of_find hf)] at hf

/-- A byte that `find` answers with a row of the instruction, then its operand bytes, decodes to it. -/
theorem decode_of_find_map {T : List Descriptor} {b : Byte} (i : Instr) (rest : List Byte)
    (h : (find T b).map (fun d => (d.mnemonic, d.mode)) = some (i.mnemonic, i.mode)) :
    decode T (b :: i.operands ++ rest) = .instr i rest := by
  obtain ⟨d, hf, hi⟩ := Option.map_eq_some_iff.1 h
  exact decode_eq_instr_iff.2 ⟨b, d, rfl, hf, Prod.ext_iff.1 hi⟩

/-- In a table without a mnemonic and mode twice, an instruction is reached exactly through its one row. -/
theorem wf_iff_find {T : List Descriptor} (hT : (T.map (fun d => (d.mnemonic, d.mode))).Nodup) {i : Instr}
    {d : Descriptor} (hd : d ∈ T) (hi : IsRowOf d i) : i.wf T ↔ find T d.opcode = some d := by
  refine ⟨?_, fun hf => wf_of_find hf hi⟩
  rintro ⟨d', hd', ⟨hm, hmode⟩, hf⟩
  obtain rfl : d' = d :=
    List.inj_on_of_nodup_map hT hd' hd (Prod.ext (hm.trans hi.left.symm) (hmode.trans hi.right.symm))
  exact hf

/-! ### The named tables -/

theorem asTranscribed_rows (o : DupOrder) : Table.asTranscribed (TableName.rows (.asTranscribed o)) := by
  cases o
  case zpxFirst => decide +kernel
  case absyFirst => decide +kernel

theorem canonical_resolved : Table.resolved (TableName.rows .canonical) := by decide +kernel

theorem named_table_length (n : TableName) : n.rows.length = nDesc := by
  rcases n with (_ | _) | _ <;> rfl

theorem named_table_find_lda (n : TableName) :
    (find n.rows 0xa9).map (fun d => (d.mnemonic, d.mode)) = some (.lda, .immediate) := by
  rcases n with (_ | _) | _ <;> decide +kernel

theorem named_table_find_jmp (n : TableName) :
    (find n.rows 0x4c).map (fun d => (d.mnemonic, d.mode)) = some (.jmp, .absolute) := by
  rcases n with (_ | _) | _ <;> decide +kernel

theorem named_table_find_0x02 (n : TableName) : find n.rows 0x02 = none := by
  rcases n with (_ | _) | _ <;> decide +kernel

theorem named_table_settled (n : TableName) : Table.settled n.rows := by
  refine ⟨named_table_length n, named_table_find_lda n, named_table_find_jmp n, ?_⟩
  cases n with
  | asTranscribed o => exact .inl (asTranscribed_rows o)
  | canonical => exact .inr canonical_resolved

/-! ### The instructions of the named tables -/

theorem mem_canonical_rows (i : Instr) :
    (i.mnemonic, i.mode) ∈ (TableName.rows .canonical).map (fun d => (d.mnemonic, d.mode)) := by
  cases i <;> (dsimp only [Instr.mnemonic, Instr.mode]; decide +kernel)

/-- The named tables have rows of the same mnemonics and modes; they differ in two opcode bytes and in the order. -/
theorem canonical_rows_perm (n : TableName) :
    ((TableName.rows .canonical).map (fun d => (d.mnemonic, d.mode))).Perm
      (n.rows.map (fun d => (d.mnemonic, d.mode))) := by
  rcases n with (_ | _) | _ <;> decide +kernel

theorem exists_row_of_instr (n : TableName) (i : Instr) : ∃ d ∈ n.rows, IsRowOf d i := by
  obtain ⟨d, hd, hi⟩ := List.mem_map.1 ((canonical_rows_perm n).subset (mem_canonical_rows i))
  exact ⟨d, hd, Prod.ext_iff.1 hi⟩

theorem find_zpxFirst_iff : ∀ d ∈ TableName.rows (.asTranscribed .zpxFirst),
    (find (TableName.rows (.asTranscribed .zpxFirst)) d.opcode = some d ↔
      ¬ ((d.mnemonic = .cmp ∨ d.mnemonic = .sta) ∧ d.mode = .absoluteY)) := by
  decide +kernel

theorem find_absyFirst_iff : ∀ d ∈ TableName.rows (.asTranscribed .absyFirst),
    (find (TableName.rows (.asTranscribed .absyFirst)) d.opcode = some d ↔
      ¬ ((d.mnemonic = .cmp ∨ d.mnemonic = .sta) ∧ d.mode = .zeropageX)) := by
  decide +kernel

theorem wf_canonical (i : Instr) : i.wf (TableName.rows .canonical) := by
  obtain ⟨d, hd, hi⟩ := exists_row_of_instr .canonical i
  exact wf_of_find (find_of_resolved canonical_resolved hd) hi

theorem wf_zpxFirst_iff (i : Instr) : i.wf (TableName.rows (.asTranscribed .zpxFirst)) ↔
    ¬ ((i.mnemonic = .cmp ∨ i.mnemonic = .sta) ∧ i.mode = .absoluteY) := by
  obtain ⟨d, hd, hi⟩ := exists_row_of_instr (.asTranscribed .zpxFirst) i
  rw [wf_iff_find (named_table_rows_nodup _) hd hi, find_zpxFirst_iff d hd, hi.left, hi.right]

theorem wf_absyFirst_iff (i : Instr) : i.wf (TableName.rows (.asTranscribed .absyFirst)) ↔
    ¬ ((i.mnemonic = .cmp ∨ i.mnemonic = .sta) ∧ i.mode = .zeropageX) := by
  obtain ⟨d, hd, hi⟩ := exists_row_of_instr (.asTranscribed .absyFirst) i
  rw [wf_iff_find (named_table_rows_nodup _) hd hi, find_absyFirst_iff d hd, hi.left, hi.right]

end Sys2Proof.Machine
end

section
/-! PROOF. The statements of the family 41_instruction_table.md. -/

namespace Sys2Proof.Machine

/-- Settles O2: the two settled rows are the rows of the two instructions. -/
theorem settledRowsDecode : Obligations.SettledRowsDecode := by
  rintro T byte1 byte2 rest ⟨-, hlda, hjmp, -⟩
  exact ⟨decode_of_find_map (.ldaImmediate byte1) rest hlda, decode_of_find_map (.jmpAbsolute byte1 byte2) rest hjmp⟩

/-- Settles O5: every instruction has one row in each named table; no row of `T_CANONICAL` is shadowed, and of the other
two tables the rows that come second on their opcode byte are. -/
theorem wellFormedUnderNamedTables : Obligations.WellFormedUnderNamedTables :=
  fun i => ⟨wf_canonical i, wf_zpxFirst_iff i, wf_absyFirst_iff i⟩

/-- Settles O6: a linear scan stops at the least index. -/
theorem findReturnsLeastIndex : Obligations.FindReturnsLeastIndex :=
  fun _ _ => ⟨fun _ => find_eq_some_iff, find_eq_none_iff⟩

/-- Settles O7: the settled facts of each table by its rule, the rest by evaluating the tables. -/
theorem namedTableFacts : Obligations.NamedTableFacts :=
  ⟨fun n => ⟨named_table_settled n, named_table_find_0x02 n⟩, asTranscribed_rows, canonical_resolved,
   by decide +kernel, by decide +kernel, by decide +kernel, by decide +kernel, by decide +kernel⟩

/-- Settles O8: the definition of `len`, mode by mode. -/
theorem lengthOfEveryMode : Obligations.LengthOfEveryMode := by
  unfold Obligations.LengthOfEveryMode
  decide

/-- Settles O10: the definitions of the length and of the operand text, mode by mode. -/
theorem decodeOfEveryMode : Obligations.DecodeOfEveryMode :=
  fun _ _ _ => ⟨rfl, rfl, rfl, rfl, rfl, rfl, rfl, rfl, rfl, rfl, rfl, rfl, rfl, rfl, fun _ => rfl⟩

end Sys2Proof.Machine
end

section
/-! PROOF. What the shared decode does with an instruction that does not fit or in an exhausted engine (42_engine.md
R174, R188), and that its mnemonic and operand bytes do not move the cursor (R193). -/

namespace Sys2Proof.Machine

/-! ### Where nothing is decoded -/

theorem decodeAs_of_exhausted {m : Mnemonic} {mode : Mode} {byte1 byte2 : Byte} {s : State} {e : Engine}
    (he : s.engine = some e) (hx : e.est = .exhausted) : decodeAs m mode byte1 byte2 s = .next s := by
  simp only [decodeAs, he, hx]

theorem decodeAs_of_truncated {m : Mnemonic} {mode : Mode} {byte1 byte2 : Byte} {s : State} {e : Engine}
    (he : s.engine = some e) (hd : e.est = .decoding) (hn : e.prg.size < e.cursor + mode.len) :
    decodeAs m mode byte1 byte2 s = .next (s.setEngine e.exhaust) := by
  have hlt : e.prg.size - e.cursor < mode.len := by
    have := Mode.len_pos mode
    omega
  simp only [decodeAs, he, hd, if_pos hlt]

theorem stepEngine_of_exhausted {s : State} {e : Engine} (he : s.engine = some e) (hx : e.est = .exhausted) :
    stepEngine s = .next s := by
  simp only [stepEngine, he, hx]

theorem runEngine_of_exhausted (fuel : Nat) {s : State} {e : Engine} (he : s.engine = some e)
    (hx : e.est = .exhausted) : runEngine fuel s = .next s := by
  cases fuel with
  | zero => rfl
  | succ fuel => simp only [runEngine, he, hx]

/-! ### Two instructions of one mode -/

/-- Two engines that differ at most in what their records say. -/
structure Engine.Alike (e e' : Engine) : Prop where
  cursor : e'.cursor = e.cursor
  est : e'.est = e.est
  prg : e'.prg = e.prg
  lines : e'.lines.length = e.lines.length

namespace Engine.Alike

theorem refl (e : Engine) : e.Alike e := ⟨rfl, rfl, rfl, rfl⟩

theorem append {e e' : Engine} (h : e.Alike e') (r r' : Line) : (e.append r).Alike (e'.append r') :=
  ⟨h.cursor, h.est, h.prg, by simp [h.lines]⟩

theorem advance {e e' : Engine} (h : e.Alike e') (n : Nat) : (e.advance n).Alike (e'.advance n) :=
  ⟨congrArg (· + n) h.cursor, h.est, h.prg, h.lines⟩

theorem exhaust {e e' : Engine} (h : e.Alike e') : e.exhaust.Alike e'.exhaust :=
  ⟨h.cursor, rfl, h.prg, by simp [h.lines]⟩

theorem finish {e e' : Engine} (h : e.Alike e') (T : List Descriptor) : (e.finish T).Alike (e'.finish T) := by
  rw [Engine.finish_eq, Engine.finish_eq, h.prg, h.cursor]
  split
  · exact h.exhaust
  · exact h

/-- The mnemonic and the operand text go into the record alone. -/
theorem emit (e : Engine) (T : List Descriptor) (bytes : List Byte) (m m' : Mnemonic) (operand operand' : Text) :
    (e.emit T bytes m operand).Alike (e.emit T bytes m' operand') :=
  (((refl e).append _ _).advance bytes.length).finish T

end Engine.Alike

/-- The shared decode takes the same branch for every mnemonic and every operand bytes. -/
theorem decodeAs_alike {m : Mnemonic} {mode : Mode} {byte1 byte2 : Byte} {s t : State}
    (h : decodeAs m mode byte1 byte2 s = .next t) (m' : Mnemonic) (byte1' byte2' : Byte) :
    ∃ (t' : State) (e e' : Engine), decodeAs m' mode byte1' byte2' s = .next t' ∧ t.engine = some e ∧
      t'.engine = some e' ∧ e.Alike e' := by
  rcases decodeAs_cases m mode byte1 byte2 s with ⟨_, hno⟩ | ⟨e, he, hcase⟩
  · rw [hno] at h; cases h
  rcases hcase with ⟨hx, hstay⟩ | ⟨hd, hlt, htrunc⟩ | ⟨_, _, _, hgap⟩ | ⟨hd, hge, bytes, hbytes, hemit⟩
  · rw [hstay] at h; cases h
    exact ⟨s, e, e, decodeAs_of_exhausted he hx, he, he, .refl e⟩
  · rw [htrunc] at h; cases h
    exact ⟨_, _, _, decodeAs_of_truncated he hd (by omega), rfl, rfl, .refl _⟩
  · rw [hgap] at h; cases h
  · rw [hemit] at h; cases h
    have hemit' : decodeAs m' mode byte1' byte2' s = .next (s.setEngine (e.emit s.cfg.table bytes m'
        (operandText s.cfg.indirectRender mode byte1' byte2'))) := by
      simp only [decodeAs, he, hd, if_neg hge, hbytes, decodeOperand]
    exact ⟨_, _, _, hemit', rfl, rfl, .emit e _ bytes _ _ _ _⟩

end Sys2Proof.Machine
end

section
/-! PROOF. The terminal condition in the rule's own form (42_engine.md R172, R174), the step that decodes an instruction
(R176), and the bytes of a word placed at the cursor. -/

namespace Sys2Proof.Machine

/-! ### The terminal condition -/

theorem requiredLength_le_three (T : List Descriptor) (prg : Memory) (c : Nat) : requiredLength T prg c ≤ 3 := by
  unfold requiredLength
  split
  · decide
  · split
    · decide
    · exact Mode.len_le_three _

theorem remaining_le_two_of_exhausted {T : List Descriptor} {prg : Memory} {c : Nat}
    (h : exhaustedAt T prg c = true) : prg.size - c ≤ 2 := by
  have := requiredLength_le_three T prg c
  rw [exhaustedAt, decide_eq_true_iff] at h
  omega

/-- The three cases of R174: the end of the region, an unrecognised byte, a recognised instruction. -/
theorem exhaustedAt_iff {T : List Descriptor} {prg : Memory} (hr : prg.isRegion) (c : Nat) :
    exhaustedAt T prg c = true ↔
      prg.size ≤ c ∨ ∃ b d, prg.bytes[c]? = some b ∧ find T b = some d ∧ prg.size < c + d.mode.len := by
  rcases Nat.lt_or_ge c prg.size with hc | hc
  case inr => exact iff_of_true (exhaustedAt_of_size_le hc) (.inl hc)
  obtain ⟨b, hread, hb⟩ := hr.read_of_lt hc
  cases hf : find T b with
  | none =>
    rw [exhaustedAt_of_absent hread hf, decide_eq_true_iff]
    refine iff_of_false (by omega) ?_
    rintro (hle | ⟨b', d, hb', hf', _⟩)
    · omega
    · obtain rfl : b = b' := Option.some.inj (hb.symm.trans hb')
      rw [hf] at hf'; cases hf'
  | some d =>
    rw [exhaustedAt_of_row hread hf, decide_eq_true_iff]
    constructor
    · exact fun hlt => .inr ⟨b, d, hb, hf, by omega⟩
    · rintro (hle | ⟨b', d', hb', hf', hlt⟩)
      · omega
      · obtain rfl : b = b' := Option.some.inj (hb.symm.trans hb')
        obtain rfl : d = d' := Option.some.inj (hf.symm.trans hf')
        omega

/-! ### Bytes that decode to an instruction -/

/-- What it says of a region that the bytes at an offset decode to an instruction: the row's opcode byte stands there,
the operand bytes after it, and the whole instruction lies inside the region. -/
theorem row_of_decode_window {T : List Descriptor} {prg : Memory} {c : Nat} {i : Instr} {rest : List Byte}
    (hr : prg.isRegion) (h : decode T (prg.window c 3) = .instr i rest) :
    ∃ b d, prg.read c = some b ∧ find T b = some d ∧ IsRowOf d i ∧ c + i.mode.len ≤ prg.size ∧
      i.operands = prg.slice (c + 1) (i.mode.len - 1) := by
  obtain ⟨b, d, hwindow, hf, hi⟩ := decode_eq_instr_iff.1 h
  rw [hr.window] at hwindow
  have hb : prg.bytes[c]? = some b := by
    have := congrArg (·[0]?) hwindow
    simpa [Memory.slice] using this
  have hlen := operands_length i
  have hops : prg.slice (c + 1) 2 = i.operands ++ rest := by
    rw [prg.slice_succ c 2 hb, List.cons_append] at hwindow
    exact List.tail_eq_of_cons_eq hwindow
  have htotal := congrArg List.length hwindow
  simp only [Memory.slice, List.length_take, List.length_drop, Memory.bytes_length, List.length_append,
    List.length_cons] at htotal
  refine ⟨b, d, by rw [hr.read, hb], hf, hi, by omega, ?_⟩
  calc i.operands = (prg.slice (c + 1) 2).take (i.mode.len - 1) := by rw [hops, List.take_left' hlen]
    _ = prg.slice (c + 1) (i.mode.len - 1) := by
      rw [Memory.slice, Memory.slice, List.take_take, Nat.min_eq_left (by omega)]

theorem stepEngine_of_decode {s : State} {e : Engine} {i : Instr} {rest : List Byte} (he : s.engine = some e)
    (hd : e.est = .decoding) (hr : e.prg.isRegion)
    (h : decode s.cfg.table (e.prg.window e.cursor 3) = .instr i rest) :
    stepEngine s = exec i (s.setEngine e.lead) := by
  obtain ⟨b, d, hb, hf, ⟨_, hmode⟩, hfits, _⟩ := row_of_decode_window hr h
  have hroom : exhaustedAt s.cfg.table e.prg e.cursor = false := by
    rw [exhaustedAt_of_row hb hf, hmode, decide_eq_false_iff_not]
    omega
  simp only [stepEngine, he, hd, hroom, execDecoded, State.setEngine_cfg, h]
  rfl

theorem Engine.lead_of_decoding {e : Engine} (hd : e.est = .decoding) :
    e.lead = ⟨e.prg, e.cursor, .decoding, if e.cursor = 0 then e.lines ++ [.lead] else e.lines⟩ := by
  rw [Engine.lead_eq, hd, leadAt]
  split
  · rfl
  · rw [List.append_nil]

/-! ### A word placed at the cursor (log entry 5) -/

/-- Where there is no engine yet, the word is placed as in an engine on an empty region. -/
theorem State.withFetchWord_engine (s : State) (nbits w : Nat) :
    (s.withFetchWord nbits w).engine =
      some ((s.engine.getD (newEngine ⟨[]⟩)).withBytes (tableWordBytes nbits w)) := by
  unfold State.withFetchWord
  cases s.engine with
  | some e => rfl
  | none => rfl

theorem Engine.withBytes_bytes (e : Engine) (bs : List Byte) :
    ∃ front back, (e.withBytes bs).prg.bytes = front ++ bs ++ back ∧ front.length = e.cursor := by
  refine ⟨_, _, Memory.ofBytes_bytes _, ?_⟩
  simp only [List.length_append, List.length_take, List.length_replicate]
  omega

theorem Engine.withBytes_slice (e : Engine) (bs : List Byte) :
    (e.withBytes bs).prg.slice e.cursor bs.length = bs := by
  obtain ⟨front, back, hbytes, hlen⟩ := e.withBytes_bytes bs
  rw [Memory.slice, hbytes, List.append_assoc, List.drop_left' hlen, List.take_left]

theorem Engine.withBytes_window_three (e : Engine) {bs : List Byte} (hlen : bs.length = 3) :
    (e.withBytes bs).prg.window (e.withBytes bs).cursor 3 = bs := by
  rw [(e.withBytes_isRegion bs).window, ← hlen]
  exact e.withBytes_slice bs

theorem tableWordBytes_length (nbits w : Nat) : (tableWordBytes nbits w).length = 3 := rfl

theorem decode_of_decodeTableWord {nbits w : Nat} {i : Instr} (h : decodeTableWord nbits w = some i) :
    ∃ rest, decode Config.default.table (tableWordBytes nbits w) = .instr i rest := by
  unfold decodeTableWord at h
  split at h
  · next j rest hdecode =>
    cases h
    exact ⟨rest, hdecode⟩
  · cases h

end Sys2Proof.Machine
end

section
/-! PROOF. Rendering (42_engine.md R180 to R186): the machine bytes as one list, and that a record of the sweep renders
to printable characters. -/

namespace Sys2Proof.Machine

theorem bytesText_eq_intercalate (cfg : Config) (bs : List Byte) :
    bytesText cfg bs = List.intercalate [' '] (bs.map (fun x => hexpad x.toNat cfg.byteHexWidth)) := by
  induction bs using bytesText.induct with
  | case1 => rfl
  | case2 x => simp [bytesText]
  | case3 x y rest ih => simp [bytesText, ih]

/-! ### Printable texts -/

/-- Every character of the text is in the range 0x20 to 0x7e. -/
def PrintableText (t : Text) : Prop := ∀ ch ∈ t, printable ch

@[simp] theorem printableText_nil : PrintableText [] := List.forall_mem_nil _

@[simp] theorem printableText_cons (ch : Char) (t : Text) :
    PrintableText (ch :: t) ↔ printable ch ∧ PrintableText t := List.forall_mem_cons

@[simp] theorem printableText_append (t t' : Text) :
    PrintableText (t ++ t') ↔ PrintableText t ∧ PrintableText t' := List.forall_mem_append

theorem printableText_replicate {ch : Char} (h : printable ch) (n : Nat) : PrintableText (List.replicate n ch) :=
  fun _ hmem => List.eq_of_mem_replicate hmem ▸ h

@[simp] theorem printableText_hex (v : Nat) : PrintableText (hex v) := by
  have halphabet : PrintableText hexAlphabet := by simp [hexAlphabet, printable]
  exact fun ch hmem => halphabet ch (hex_subset_hexAlphabet v hmem)

@[simp] theorem printableText_hexpad (v w : Nat) : PrintableText (hexpad v w) :=
  (printableText_append _ _).2 ⟨printableText_replicate (by decide) _, printableText_hex v⟩

@[simp] theorem printableText_ljust (t : Text) (w : Nat) : PrintableText (ljust t w) ↔ PrintableText t :=
  (printableText_append _ _).trans (and_iff_left (printableText_replicate (by decide) _))

@[simp] theorem printableText_mnemonicText (m : Mnemonic) : PrintableText (mnemonicText m) := by
  have hletter (letter : Letter) : printable (letterChar letter) := by cases letter <;> decide
  simp only [mnemonicText, printableText_cons]
  exact ⟨hletter _, hletter _, hletter _, printableText_nil⟩

/-- Around the numeral, the operand text has punctuation and register letters only. -/
@[simp] theorem printableText_operandText (render : IndirectRender) (mode : Mode) (byte1 byte2 : Byte) :
    PrintableText (operandText render mode byte1 byte2) := by
  cases mode with
  | indirect => cases render <;> simp [operandText, printable]
  | _ => simp [operandText, printable]

@[simp] theorem printableText_bytesText (cfg : Config) (bs : List Byte) : PrintableText (bytesText cfg bs) := by
  induction bs using bytesText.induct with
  | case1 => exact printableText_nil
  | case2 x => exact printableText_hexpad _ _
  | case3 x y rest ih => simp [bytesText, ih, printable]

theorem printableText_render_instr (cfg : Config) (o : Nat) (bs : List Byte) (m : Mnemonic) {operand : Text}
    (h : PrintableText operand) : PrintableText (render cfg (.instr o bs m operand)) := by
  by_cases hempty : operand = [] <;> simp [render, assemblyText, hempty, h, printable]

theorem textOf_append (cfg : Config) (ls ls' : List Line) : textOf cfg (ls ++ ls') = textOf cfg ls ++ textOf cfg ls' :=
  List.flatMap_append

theorem textOf_singleton (cfg : Config) (r : Line) : textOf cfg [r] = render cfg r ++ cfg.newline :=
  List.flatMap_singleton ..

/-- Lines that render to printable characters give a text of them and line terminators. -/
theorem textOf_printable {cfg : Config} {ls : List Line} (h : ∀ r ∈ ls, PrintableText (render cfg r)) :
    ∀ ch ∈ textOf cfg ls, printable ch ∨ ch ∈ cfg.newline := by
  intro ch hmem
  obtain ⟨r, hr, hch⟩ := List.mem_flatMap.1 hmem
  exact (List.mem_append.1 hch).imp_left (h r hr ch)

end Sys2Proof.Machine
end

section
/-! PROOF. The records of the linear sweep (42_engine.md R190): what they are, that they stand in ascending order without
overlap, and that with the skipped bytes they make up the region before the cursor. -/

namespace Sys2Proof.Machine

/-- The record of a recognised instruction, as opposed to the two markers. -/
def Line.isInstr (r : Line) : Bool := r matches .instr ..

namespace Swept

variable {cfg : Config} {prg : Memory} {c k : Nat} {ls : List Line}

theorem isInstr (h : Swept cfg prg c ls k) : ∀ r ∈ ls, r.isInstr = true := by
  induction h with
  | start => exact List.forall_mem_nil _
  | skip _ _ _ ih => exact ih
  | instr _ _ _ _ ih => exact List.forall_mem_append.2 ⟨ih, List.forall_mem_singleton.2 rfl⟩

theorem render_printable (h : Swept cfg prg c ls k) : ∀ r ∈ ls, PrintableText (render cfg r) := by
  induction h with
  | start => exact List.forall_mem_nil _
  | skip _ _ _ ih => exact ih
  | instr _ _ _ _ ih =>
    exact List.forall_mem_append.2
      ⟨ih, List.forall_mem_singleton.2 (printableText_render_instr cfg _ _ _ (printableText_operandText _ _ _ _))⟩

/-- Every byte before the cursor is in one record or was skipped. -/
theorem cursor_eq (h : Swept cfg prg c ls k) : c = (ls.map Line.byteCount).sum + k := by
  induction h with
  | start => rfl
  | skip _ _ _ ih => omega
  | instr _ _ _ fits ih =>
    rw [List.map_append, List.sum_append, List.map_singleton, List.sum_singleton, Line.byteCount,
      Memory.slice_length fits]
    omega

/-- Every record ends where or before a record at or past the cursor begins. -/
theorem before_next (h : Swept cfg prg c ls k) {o : Nat} (ho : c ≤ o) (bs : List Byte) (m : Mnemonic)
    (operand : Text) : ∀ r ∈ ls, r.before (.instr o bs m operand) := by
  induction h with
  | start => exact List.forall_mem_nil _
  | skip _ _ _ ih => exact ih (by omega)
  | @instr c _ _ _ d _ _ _ fits ih =>
    have hpos := Mode.len_pos d.mode
    have hend : c + (prg.slice c d.mode.len).length ≤ o := by rwa [Memory.slice_length fits]
    exact List.forall_mem_append.2 ⟨ih (by omega), List.forall_mem_singleton.2 ⟨by omega, hend⟩⟩

theorem pairwise_before (h : Swept cfg prg c ls k) : ls.Pairwise Line.before := by
  induction h with
  | start => exact .nil
  | skip _ _ _ ih => exact ih
  | instr before _ _ _ ih =>
    exact List.pairwise_append.2 ⟨ih, List.pairwise_singleton _ _,
      fun r hr _ hx => List.mem_singleton.1 hx ▸ before.before_next le_rfl _ _ _ r hr⟩

theorem endsBy_of_le (h : Swept cfg prg c ls k) {n : Nat} (hn : c ≤ n) : ∀ r ∈ ls, r.endsBy n := by
  intro r hr
  have hbefore := h.before_next hn [] .nop [] r hr
  cases r with
  | instr => exact hbefore.right
  | lead => exact hbefore
  | trail => exact hbefore

/-- At offset 0 nothing has been swept, since every instruction and every skip moves on. -/
theorem records_eq_nil (h : Swept cfg prg 0 ls k) : ls = [] := by
  generalize hc : 0 = c at h
  cases h with
  | start => rfl
  | skip => omega
  | @instr _ _ _ _ d =>
    have := Mode.len_pos d.mode
    omega

end Swept

/-- The instruction records of an engine that meets the invariant are those of the sweep up to its cursor. -/
theorem Engine.Inv.swept {cfg : Config} {e : Engine} (h : e.Inv cfg) :
    ∃ ls k, e.lines.filter Line.isInstr = ls ∧ Swept cfg e.prg e.cursor ls k := by
  obtain ⟨_, _, hest⟩ := h
  cases hd : e.est with
  | decoding =>
    rw [hd] at hest
    rcases hest with ⟨hzero, hlines⟩ | ⟨_, _, ls, k, hlines, hswept⟩
    · exact ⟨[], 0, by rw [hlines]; rfl, by rw [hzero]; exact .start⟩
    · exact ⟨ls, k, hlines ▸ List.filter_eq_self.2 hswept.isInstr, hswept⟩
  | exhausted =>
    rw [hd] at hest
    obtain ⟨_, ls, k, hlines, hswept⟩ := hest
    refine ⟨ls, k, ?_, hswept⟩
    calc e.lines.filter Line.isInstr = ls.filter Line.isInstr ++ [] := by rw [hlines]; exact List.filter_append ..
      _ = ls := by rw [List.append_nil, List.filter_eq_self.2 hswept.isInstr]

/-- An engine's records are the two markers and records of the sweep. -/
theorem Engine.Inv.render_printable {cfg : Config} {e : Engine} (h : e.Inv cfg) (hlead : PrintableText cfg.markerLead)
    (htrail : PrintableText cfg.markerTrailPrefix) : ∀ r ∈ e.lines, PrintableText (render cfg r) := by
  intro r hr
  obtain ⟨ls, k, hls, hswept⟩ := h.swept
  cases r with
  | lead => exact hlead
  | trail o => exact (printableText_append _ _).2 ⟨htrail, printableText_hexpad o 4⟩
  | instr o bs m operand => exact hswept.render_printable _ (hls ▸ List.mem_filter.2 ⟨hr, rfl⟩)

end Sys2Proof.Machine
end

section
/-! PROOF. How far a step goes, and the end of every run (42_engine.md R184, R190, R192). -/

namespace Sys2Proof.Machine

/-! ### Progress -/

/-- One step of the rule exhausts the engine, skips one byte or goes past one instruction. -/
theorem Engine.ruleStep_progress {cfg : Config} {e : Engine} (hd : e.est = .decoding) (hr : e.prg.isRegion) :
    (e.ruleStep cfg).est = .exhausted ∨
      ∃ n, 1 ≤ n ∧ n ≤ 3 ∧ (e.ruleStep cfg).cursor = e.cursor + n := by
  cases hexh : exhaustedAt cfg.table e.prg e.cursor with
  | true => exact .inl (by rw [Engine.ruleStep_of_exhausted hexh, Engine.exhaust_est])
  | false =>
    obtain ⟨b, hread, hb⟩ := byte_of_not_exhausted hr hexh
    cases hf : find cfg.table b with
    | none =>
      refine .inr ⟨1, le_rfl, by decide, ?_⟩
      rw [Engine.ruleStep_of_absent hexh hb hf, Engine.skipped_eq_finish hd, Engine.finish_cursor,
        Engine.advance_cursor, Engine.lead_cursor]
    | some d =>
      refine .inr ⟨d.mode.len, Mode.len_pos d.mode, Mode.len_le_three d.mode, ?_⟩
      have hfits : e.lead.cursor + d.mode.len ≤ e.lead.prg.size := by
        rw [Engine.lead_cursor, Engine.lead_prg]
        exact fits_of_not_exhausted hexh hread hf
      rw [Engine.ruleStep_of_row hexh hb hf, Engine.recorded_eq_finish (e.lead_est.trans hd) hfits,
        Engine.finish_cursor, Engine.advance_cursor, Engine.append_cursor, Engine.lead_cursor]

theorem stepEngine_progress {s : State} {e e' : Engine} (he : s.engine = some e) (hd : e.est = .decoding)
    (hr : e.prg.isRegion) (h : stepEngine s = .next (s.setEngine e')) :
    e'.est = .exhausted ∨ ∃ n, 1 ≤ n ∧ n ≤ 3 ∧ e'.cursor = e.cursor + n := by
  have hnext : s.setEngine e' = s.setEngine (e.ruleStep s.cfg) :=
    Host.Outcome.next.inj (h.symm.trans (stepEngine_eq_ruleStep he hd hr))
  obtain rfl : e' = e.ruleStep s.cfg := Option.some.inj (congrArg State.engine hnext)
  exact Engine.ruleStep_progress hd hr

/-- A decoding engine that meets the invariant and is past offset 0 has bytes left: the step before would have
exhausted it otherwise. -/
theorem Engine.Inv.cursor_lt_size {cfg : Config} {e : Engine} (h : e.Inv cfg) (hd : e.est = .decoding)
    (hne : e.cursor ≠ 0) : e.cursor < e.prg.size := by
  obtain ⟨_, _, hest⟩ := h
  rw [hd] at hest
  rcases hest with ⟨hzero, _⟩ | ⟨_, hexh, _⟩
  · exact absurd hzero hne
  · exact lt_size_of_not_exhausted hexh

/-! ### Steps until exhaustion -/

theorem exhaustedAfter_zero {s : State} {e : Engine} (he : s.engine = some e) (hx : e.est = .exhausted) :
    ExhaustedAfter 0 s s :=
  ⟨rfl, ⟨e, he, hx⟩, nofun⟩

theorem stepTimes_succ {s t : State} (h : stepEngine s = .next t) (n : Nat) : stepTimes (n + 1) s = stepTimes n t := by
  simp only [stepTimes, h]

theorem ExhaustedAfter.succ {n : Nat} {s t u : State} {e : Engine} (he : s.engine = some e) (hd : e.est = .decoding)
    (hstep : stepEngine s = .next t) (h : ExhaustedAfter n t u) : ExhaustedAfter (n + 1) s u := by
  obtain ⟨htimes, hx, hbefore⟩ := h
  refine ⟨(stepTimes_succ hstep n).trans htimes, hx, fun m hm => ?_⟩
  cases m with
  | zero => exact ⟨s, e, rfl, he, hd⟩
  | succ m => rw [stepTimes_succ hstep]; exact hbefore m (Nat.lt_of_succ_lt_succ hm)

/-- The first of the steps until exhaustion. -/
theorem ExhaustedAfter.pred {n : Nat} {s u : State} (h : ExhaustedAfter (n + 1) s u) :
    ∃ e t, s.engine = some e ∧ e.est = .decoding ∧ stepEngine s = .next t ∧ ExhaustedAfter n t u := by
  obtain ⟨htimes, hx, hbefore⟩ := h
  obtain ⟨_, e, hs, he, hd⟩ := hbefore 0 (Nat.succ_pos n)
  cases hs
  cases hstep : stepEngine s with
  | next t =>
    rw [stepTimes_succ hstep] at htimes
    refine ⟨e, t, he, hd, rfl, htimes, hx, fun m hm => ?_⟩
    rw [← stepTimes_succ hstep]
    exact hbefore (m + 1) (Nat.succ_lt_succ hm)
  | fault r => simp only [stepTimes, hstep] at htimes; cases htimes
  | refused r => simp only [stepTimes, hstep] at htimes; cases htimes

/-- A run with fuel for the steps until exhaustion answers the exhausted state. -/
theorem ExhaustedAfter.runEngine {n fuel : Nat} {s t : State} (h : ExhaustedAfter n s t) (hn : n ≤ fuel) :
    runEngine fuel s = .next t := by
  induction n generalizing s fuel with
  | zero =>
    obtain ⟨hs, ⟨e, he, hx⟩, _⟩ := h
    cases hs
    exact runEngine_of_exhausted fuel he hx
  | succ n ih =>
    obtain ⟨e, u, he, hd, hstep, hrest⟩ := h.pred
    obtain ⟨fuel, rfl⟩ := Nat.exists_eq_add_of_le' (Nat.one_le_of_lt hn)
    simp only [Machine.runEngine, he, hd, hstep]
    exact ih hrest (Nat.le_of_succ_le_succ hn)

/-- A step of a decoding engine exhausts it or leaves fewer bytes, so the bytes that remain bound the steps. -/
theorem Engine.Inv.exhaustedAfter {s : State} {e : Engine} (he : s.engine = some e) (h : e.Inv s.cfg) :
    ∃ n e', n ≤ max (e.prg.size - e.cursor) 1 ∧ e'.est = .exhausted ∧ ExhaustedAfter n s (s.setEngine e') := by
  induction hleft : e.prg.size - e.cursor using Nat.strong_induction_on generalizing s e with
  | _ left ih =>
    cases hd : e.est with
    | exhausted => exact ⟨0, e, Nat.zero_le _, hd, by rw [State.setEngine_self he]; exact exhaustedAfter_zero he hd⟩
    | decoding =>
      have ⟨hr, _⟩ := h
      obtain ⟨e₁, hstep, hinv₁, hprg⟩ := stepEngine_kept he h
      cases hd₁ : e₁.est with
      | exhausted => exact ⟨1, e₁, le_max_right .., hd₁, .succ he hd hstep (exhaustedAfter_zero rfl hd₁)⟩
      | decoding =>
        obtain ⟨m, hm, _, hcursor⟩ := (stepEngine_progress he hd hr hstep).resolve_left (by rw [hd₁]; nofun)
        have hlt := hinv₁.cursor_lt_size hd₁ (by omega)
        rw [hprg] at hlt
        obtain ⟨n, e', hn, hx, hafter⟩ := ih (e₁.prg.size - e₁.cursor) (by rw [hprg]; omega)
          (s := s.setEngine e₁) rfl hinv₁ rfl
        rw [hprg] at hn
        exact ⟨n + 1, e', by omega, hx, .succ he hd hstep hafter⟩

/-- From an engine that meets the invariant, `run` answers the state of the first exhaustion. -/
theorem run_of_exhaustedAfter {s t : State} {e : Engine} {n : Nat} (he : s.engine = some e)
    (hn : n ≤ max e.prg.size 1) (h : ExhaustedAfter n s t) : run s = .next t := by
  simp only [run, runBound, he]
  exact h.runEngine hn

/-! ### What `create` starts with and an exhausted engine ends with -/

theorem create_of_loaded {s : State} {c : Container} (hrom : s.rom = .loaded c) :
    create s = .next (s.setEngine (newEngine c.prg)) := by
  simp only [create, hrom]

theorem create_next {s t : State} (h : create s = .next t) : s.cst = .loaded := by
  cases hrom : s.rom with
  | loaded c => rw [State.cst, hrom]
  | empty | failedIo | failedFormat => simp only [create, hrom, reduceCtorEq] at h

theorem Engine.Inv.exhausted_lines {cfg : Config} {e : Engine} (h : e.Inv cfg) (hx : e.est = .exhausted) :
    exhaustedAt cfg.table e.prg e.cursor = true ∧
      ∃ ls k, e.lines = [.lead] ++ ls ++ [.trail e.cursor] ∧ Swept cfg e.prg e.cursor ls k := by
  obtain ⟨_, _, hest⟩ := h
  rw [hx] at hest
  exact hest

end Sys2Proof.Machine
end

section
/-! PROOF. The statements of the family 42_engine.md. -/

namespace Sys2Proof.Machine

/-- Settles O50: whatever effect a step has, each transaction keeps the invariant. -/
theorem invariantKeptByEveryStep : Obligations.InvariantKeptByEveryStep :=
  fun _ _ hinv h => step_inv hinv h

/-- Settles O12: the definition of `render` with the bytes as one list, its examples evaluated, and the concatenation. -/
theorem textOfRecords : Obligations.TextOfRecords := by
  refine ⟨fun cfg o bs m operand => ⟨rfl, rfl, ?_⟩, by decide +kernel, by decide +kernel, rfl, by decide +kernel,
    fun cfg ls r => ⟨rfl, ?_⟩, fun s e he => ?_⟩
  · rw [render, bytesText_eq_intercalate, assemblyText, ← List.append_assoc]
  · rw [textOf_append, textOf_singleton]
  · simp only [perform, readText, he]

/-- Settles O13: the records are the markers and those of the sweep, and each renders to printable characters. -/
theorem outputIsAscii : Obligations.OutputIsAscii :=
  fun _ _ _ hinv hlead htrail => textOf_printable (hinv.render_printable hlead htrail)

/-- Settles O14: the cases of what stands at the offset, and no instruction is longer than three bytes. -/
theorem exhaustionIsRemainingBelowRequired : Obligations.ExhaustionIsRemainingBelowRequired :=
  fun _ _ c hr => ⟨exhaustedAt_iff hr c, remaining_le_two_of_exhausted⟩

/-- Settles O15: a step of a decoding engine on a region is the rule's pseudocode. -/
theorem stepFollowsPseudocode : Obligations.StepFollowsPseudocode :=
  fun _ _ he hd hr => stepEngine_eq_ruleStep he hd hr

/-- Settles O16: bytes that decode to an instruction are all there, so the step does not stop before it. -/
theorem stepRunsDecodedInstruction : Obligations.StepRunsDecodedInstruction := by
  intro s e i rest he hd hr hdecode
  have hstep := stepEngine_of_decode he hd hr hdecode
  obtain ⟨_, _, _, _, _, _, hops⟩ := row_of_decode_window hr hdecode
  exact ⟨fun hreq => (step_of_no_request hreq).trans hstep, hstep, hops, Engine.lead_of_decoding hd⟩

/-- Settles O18: the step, the run and the shared decode of every instruction test `EST` first. -/
theorem exhaustedEngineStays : Obligations.ExhaustedEngineStays := by
  intro s e he hx
  refine ⟨stepEngine_of_exhausted he hx, ?_, fun i => ?_⟩
  · simp only [run, he, runEngine_of_exhausted _ he hx]
  · rw [exec_eq_decodeAs, decodeAs_of_exhausted he hx]

/-- Settles O32: every meaning is the shared decode, which completes where there is room. -/
theorem everyInstructionCompletes : Obligations.EveryInstructionCompletes := by
  intro i s e he hd hr hfits
  rw [exec_eq_decodeAs, decodeAs_of_fits he hd hr hfits]

/-- Settles O33: every meaning is the shared decode, which exhausts the engine where there is no room. -/
theorem truncatedInstructionExhausts : Obligations.TruncatedInstructionExhausts := by
  intro i s e he hd hn
  rw [exec_eq_decodeAs, decodeAs_of_truncated he hd hn]
  rfl

/-- Settles O35: the shared decodes of the two instructions take the same branch. -/
theorem cursorIgnoresOperands : Obligations.CursorIgnoresOperands := by
  intro i j s t hmode h
  rw [exec_eq_decodeAs, hmode] at h
  obtain ⟨t', e, e', h', he, he', halike⟩ := decodeAs_alike h j.mnemonic (j.operands.getD 0 0) (j.operands.getD 1 0)
  exact ⟨t', e, e', (exec_eq_decodeAs j s).trans h', he, he', halike.cursor, halike.est, halike.prg, halike.lines⟩

/-- Settles O43: `create` starts a new engine on the loaded container, and needs one. -/
theorem createStartsAtZero : Obligations.CreateStartsAtZero :=
  ⟨fun _ _ hrom => create_of_loaded hrom, fun _ _ hcst h => hcst (create_next h)⟩

/-- Settles O44: the remaining bytes bound the steps until exhaustion, and `run` has fuel for them. -/
theorem runEndsInBound : Obligations.RunEndsInBound := by
  intro s e he hinv
  obtain ⟨n, e', hn, hx, hafter⟩ := hinv.exhaustedAfter he
  have hbound : n ≤ max e.prg.size 1 := hn.trans (max_le_max_right 1 (Nat.sub_le ..))
  exact ⟨n, e', hbound, hx, hafter, run_of_exhaustedAfter he hbound hafter⟩

/-- Settles O45: the new engine meets the invariant, so its run ends, and in an engine that meets it again. -/
theorem runGivesTheSweep : Obligations.RunGivesTheSweep := by
  intro s c hrom hr
  have hinv := newEngine_inv s.cfg hr
  obtain ⟨n, e, -, hx, hafter, hrun⟩ := runEndsInBound (s.setEngine (newEngine c.prg)) _ rfl hinv
  obtain ⟨e', hrun', hinv', hprg⟩ := run_kept (s := s.setEngine (newEngine c.prg)) rfl hinv
  obtain rfl : e = e' :=
    Option.some.inj (congrArg State.engine (Host.Outcome.next.inj (hrun.symm.trans hrun')))
  have hprg : e.prg = c.prg := hprg
  have ⟨_, hcursor, _⟩ := hinv'
  obtain ⟨hexh, ls, k, hlines, hswept⟩ := hinv'.exhausted_lines hx
  refine ⟨_, e, ls, k, n, create_of_loaded hrom, hrun, hafter, hprg, hx, hlines, hprg ▸ hswept, hprg ▸ hexh,
    hswept.pairwise_before, fun hempty => ?_⟩
  have hzero : e.cursor = 0 := Nat.eq_zero_of_le_zero (by rwa [hprg, hempty] at hcursor)
  rw [hzero] at hlines hswept
  rw [hlines, hswept.records_eq_nil]
  rfl

/-- Settles O46: a step keeps the invariant and makes progress, and the records are those of the sweep. -/
theorem engineAccounting : Obligations.EngineAccounting := by
  intro s e he hinv
  have ⟨hr, hcursor, _⟩ := hinv
  obtain ⟨e', hstep, ⟨_, hcursor', _⟩, hprg⟩ := stepEngine_kept he hinv
  obtain ⟨_, he₁, hext⟩ := (stepEngine_extended hstep).engine he
  obtain rfl := Option.some.inj he₁
  obtain ⟨ls, k, hls, hswept⟩ := hinv.swept
  refine ⟨hcursor, ⟨e', hstep, hext.cursor, hprg ▸ hcursor', fun hd => ?_⟩, ls, k, hls.symm, hswept,
    hswept.cursor_eq, hswept.pairwise_before, hswept.endsBy_of_le hcursor⟩
  refine (stepEngine_progress he hd hr hstep).imp_right fun ⟨n, hpos, hle, hmove⟩ => ?_
  omega

/-- Settles O60: the word's three bytes are the window at the cursor, so the next step decodes them. -/
theorem placedWordRuns : Obligations.PlacedWordRuns := by
  intro s nbits w i htable hword
  obtain ⟨rest, hdecode⟩ := decode_of_decodeTableWord hword
  have he := s.withFetchWord_engine nbits w
  have hr := (s.engine.getD (newEngine ⟨[]⟩)).withBytes_isRegion (tableWordBytes nbits w)
  have hwindow := (s.engine.getD (newEngine ⟨[]⟩)).withBytes_window_three (tableWordBytes_length nbits w)
  rw [← hwindow, ← htable] at hdecode
  obtain ⟨_, _, _, _, _, hfits, _⟩ := row_of_decode_window hr hdecode
  exact ⟨_, he, rfl, hfits, (step_of_no_request rfl).trans (stepEngine_of_decode he rfl hr hdecode)⟩

end Sys2Proof.Machine
end

section
/-! PROOF. The statements of the family 43_modes_len1.md, on one rule for the instructions of every mode: what an
instruction's decode leaves, with its length and its operand text evaluated. -/

namespace Sys2Proof.Machine

/-- Where there is room for an instruction, its decode completes, with the length and the operand text that its mode and
its operand bytes evaluate to. -/
theorem exec_of_fits {i : Instr} {s : State} {e : Engine} {n : Nat} {operand : Text} (he : s.engine = some e)
    (hd : e.est = .decoding) (hr : e.prg.isRegion) (hfits : e.cursor + n ≤ e.prg.size) (hlen : i.mode.len = n)
    (htext : operandText s.cfg.indirectRender i.mode (i.operands.getD 0 0) (i.operands.getD 1 0) = operand) :
    exec i s = .next (s.setEngine (e.recorded s.cfg.table n i.mnemonic operand)) := by
  subst hlen htext
  exact everyInstructionCompletes i s e he hd hr hfits

/-- Settles O19: each of the instructions has length 1 and the operand text `A`. -/
theorem accumulatorDecodeCompletes : Obligations.AccumulatorDecodeCompletes := by
  intro s e he hd hr hfits
  and_intros <;> exact exec_of_fits he hd hr hfits rfl rfl

/-- Settles O20: each of the instructions has length 1 and an empty operand text. -/
theorem impliedDecodeCompletes : Obligations.ImpliedDecodeCompletes := by
  intro s e he hd hr hfits
  and_intros <;> exact exec_of_fits he hd hr hfits rfl rfl

end Sys2Proof.Machine
end

section
/-! PROOF. The statements of the family 44_modes_len2.md, on the rule `exec_of_fits` for the instructions of every mode. Each
row of 41_instruction_table.md R158 is evaluated on an operand byte that stays a variable. -/

namespace Sys2Proof.Machine

/-- Settles O21: each of the instructions has length 2 and the operand text `#$` with the operand byte. -/
theorem immediateDecodeCompletes : Obligations.ImmediateDecodeCompletes := by
  intro s e byte1 he hd hr hfits
  and_intros <;> exact exec_of_fits he hd hr hfits rfl rfl

/-- Settles O22: each of the instructions has length 2 and the operand text `$` with the operand byte. -/
theorem zeropageDecodeCompletes : Obligations.ZeropageDecodeCompletes := by
  intro s e byte1 he hd hr hfits
  and_intros <;> exact exec_of_fits he hd hr hfits rfl rfl

/-- Settles O23: each of the instructions has length 2 and the operand text `$` with the operand byte and `,X`. -/
theorem zeropageXDecodeCompletes : Obligations.ZeropageXDecodeCompletes := by
  intro s e byte1 he hd hr hfits
  and_intros <;> exact exec_of_fits he hd hr hfits rfl rfl

/-- Settles O24: each of the instructions has length 2 and the operand text `$` with the operand byte and `,Y`. -/
theorem zeropageYDecodeCompletes : Obligations.ZeropageYDecodeCompletes := by
  intro s e byte1 he hd hr hfits
  and_intros <;> exact exec_of_fits he hd hr hfits rfl rfl

end Sys2Proof.Machine
end

section
/-! PROOF. The statements of the family 45_modes_len2_rel_ind.md, on the rule `exec_of_fits` for the instructions of every
mode: the branch operand is the raw byte with no target, and the index register stands inside the parentheses. -/

namespace Sys2Proof.Machine

/-- Settles O25: each of the instructions has length 2 and the operand text `$` with the raw offset byte. -/
theorem relativeDecodeCompletes : Obligations.RelativeDecodeCompletes := by
  intro s e byte1 he hd hr hfits
  and_intros <;> exact exec_of_fits he hd hr hfits rfl rfl

/-- Settles O26: each of the instructions has length 2 and the operand text `($` with the operand byte and `,X)`. -/
theorem indirectXDecodeCompletes : Obligations.IndirectXDecodeCompletes := by
  intro s e byte1 he hd hr hfits
  and_intros <;> exact exec_of_fits he hd hr hfits rfl rfl

/-- Settles O27: each of the instructions has length 2 and the operand text `($` with the operand byte and `,Y)`. -/
theorem indirectYDecodeCompletes : Obligations.IndirectYDecodeCompletes := by
  intro s e byte1 he hd hr hfits
  and_intros <;> exact exec_of_fits he hd hr hfits rfl rfl

end Sys2Proof.Machine
end

section
/-! PROOF. The statements of the family 46_modes_len3.md, on the rule `exec_of_fits` for the instructions of every mode. The
statements give the 16-bit operand as a sum of its two bytes, low byte first: `combine_eq_add` turns it into the `combine`
of the operand text (41_instruction_table.md R158). -/

namespace Sys2Proof.Machine

/-- Settles O28: each of the instructions has length 3 and the operand text `$` with the 16-bit operand. -/
theorem absoluteDecodeCompletes : Obligations.AbsoluteDecodeCompletes := by
  intro s e byte1 byte2 he hd hr hfits
  rw [← combine_eq_add]
  and_intros <;> exact exec_of_fits he hd hr hfits rfl rfl

/-- Settles O29: each of the instructions has length 3 and the operand text `$` with the 16-bit operand and `,X`. -/
theorem absoluteXDecodeCompletes : Obligations.AbsoluteXDecodeCompletes := by
  intro s e byte1 byte2 he hd hr hfits
  rw [← combine_eq_add]
  and_intros <;> exact exec_of_fits he hd hr hfits rfl rfl

/-- Settles O30: each of the instructions has length 3 and the operand text `$` with the 16-bit operand and `,Y`. -/
theorem absoluteYDecodeCompletes : Obligations.AbsoluteYDecodeCompletes := by
  intro s e byte1 byte2 he hd hr hfits
  rw [← combine_eq_add]
  and_intros <;> exact exec_of_fits he hd hr hfits rfl rfl

/-- Settles O31: the instruction has length 3, and each value of `INDIRECT_RENDER` gives its own operand text. -/
theorem indirectDecodeCompletes : Obligations.IndirectDecodeCompletes := by
  intro s e byte1 byte2 he hd hr hfits
  rw [← combine_eq_add]
  refine exec_of_fits he hd hr hfits rfl ?_
  cases s.cfg.indirectRender with
  | oneByte => rfl
  | combine => rfl

end Sys2Proof.Machine
end

section
/-! PROOF. Bytes that `find` does not recognise (47_unrecognized.md R390, R393): the step that skips one, and the steps
through a region that holds nothing else. -/

namespace Sys2Proof.Machine

/-- An unrecognised byte needs no other byte, so where one stands nothing is exhausted. -/
theorem not_exhausted_of_absent {T : List Descriptor} {prg : Memory} {c : Nat} {b : Byte} (hr : prg.isRegion)
    (hb : prg.bytes[c]? = some b) (hf : find T b = none) : exhaustedAt T prg c = false := by
  have hlt : c < prg.size := by
    rw [← Memory.bytes_length]
    exact (List.getElem?_eq_some_iff.1 hb).fst
  rw [exhaustedAt_of_absent ((hr.read c).trans hb) hf, decide_eq_false_iff_not]
  omega

theorem stepEngine_of_absent {s : State} {e : Engine} {b : Byte} (he : s.engine = some e) (hd : e.est = .decoding)
    (hr : e.prg.isRegion) (hb : e.prg.bytes[e.cursor]? = some b) (hf : find s.cfg.table b = none) :
    stepEngine s = .next (s.setEngine (e.skipped s.cfg.table (leadAt e.cursor))) := by
  rw [stepEngine_eq_ruleStep he hd hr, Engine.ruleStep_of_absent (not_exhausted_of_absent hr hb hf) hb hf]

theorem Engine.skipped_of_exhausted {T : List Descriptor} {e : Engine} (start : List Line)
    (h : exhaustedAt T e.prg (e.cursor + 1) = true) :
    e.skipped T start = ⟨e.prg, e.cursor + 1, .exhausted, e.lines ++ start ++ [.trail (e.cursor + 1)]⟩ :=
  if_pos h

theorem Engine.skipped_of_not_exhausted {T : List Descriptor} {e : Engine} (start : List Line)
    (h : exhaustedAt T e.prg (e.cursor + 1) = false) :
    e.skipped T start = ⟨e.prg, e.cursor + 1, .decoding, e.lines ++ start⟩ :=
  if_neg (Bool.eq_false_iff.1 h)

/-- A region without recognised bytes, from an offset inside it to its end. The records so far and the step's leading
marker are together the leading marker alone, at offset 0 and after it: the induction is on the bytes that remain. -/
theorem exhaustedAfter_of_all_absent {s : State} {prg : Memory} (hr : prg.isRegion)
    (habsent : ∀ b ∈ prg.bytes, find s.cfg.table b = none) {n c : Nat} {ls : List Line}
    (hsize : prg.size = c + (n + 1)) (hls : ls ++ leadAt c = [.lead]) :
    ExhaustedAfter (n + 1) (s.setEngine ⟨prg, c, .decoding, ls⟩)
      (s.setEngine ⟨prg, prg.size, .exhausted, [.lead, .trail prg.size]⟩) := by
  have hbyte {k : Nat} (hk : k < prg.size) : ∃ b, prg.bytes[k]? = some b ∧ find s.cfg.table b = none := by
    obtain ⟨b, _, hb⟩ := hr.read_of_lt hk
    exact ⟨b, hb, habsent b (List.mem_of_getElem? hb)⟩
  have hstep {k : Nat} {rs : List Line} (hk : k < prg.size) : stepEngine (s.setEngine ⟨prg, k, .decoding, rs⟩) =
      .next (s.setEngine (Engine.skipped s.cfg.table ⟨prg, k, .decoding, rs⟩ (leadAt k))) := by
    obtain ⟨b, hb, hf⟩ := hbyte hk
    exact stepEngine_of_absent rfl rfl hr hb hf
  induction n generalizing c ls with
  | zero =>
    have hlast := hstep (k := c) (rs := ls) (by omega)
    rw [Engine.skipped_of_exhausted _ (exhaustedAt_of_size_le hsize.le), hls, ← hsize] at hlast
    exact .succ rfl rfl hlast (exhaustedAfter_zero rfl rfl)
  | succ n ih =>
    have hnext := hstep (k := c) (rs := ls) (by omega)
    obtain ⟨b, hb, hf⟩ := hbyte (k := c + 1) (by omega)
    have hexh := not_exhausted_of_absent hr hb hf
    rw [Engine.skipped_of_not_exhausted _ hexh, hls] at hnext
    exact .succ rfl rfl hnext (ih (c := c + 1) (by omega) rfl)

end Sys2Proof.Machine
end

section
/-! PROOF. The statements of the family 47_unrecognized.md. -/

namespace Sys2Proof.Machine

/-- Settles O17: the step of an unrecognised byte. -/
theorem skipAdvancesByOne : Obligations.SkipAdvancesByOne :=
  fun _ _ _ he hd hr hb hf => stepEngine_of_absent he hd hr hb hf

/-- Settles O47: the steps through the whole region, which is not empty. -/
theorem allBytesUnrecognised : Obligations.AllBytesUnrecognised := by
  intro s bs hne habsent
  obtain ⟨n, hn⟩ := Nat.exists_eq_add_one.2 (List.length_pos_iff.2 hne)
  have hafter := exhaustedAfter_of_all_absent (s := s) (n := n) (c := 0) (ls := []) (Memory.ofBytes_isRegion bs)
    (by rwa [Memory.ofBytes_bytes]) (by rw [Memory.ofBytes_size, hn, Nat.zero_add]) rfl
  rwa [Memory.ofBytes_size, ← hn] at hafter

end Sys2Proof.Machine
end

section
/-! PROOF. The fatal errors of `load` (60_exceptions.md R402 to R412): one rule for each check that fails, and what a
failed load leaves. -/

namespace Sys2Proof.Machine

theorem headerOf_of_short {f : List Byte} (hlen : f.length < 16) : headerOf f = none := by
  unfold headerOf
  split
  · simp only [List.length_cons] at hlen
    omega
  · rfl

/-- The declared length of a file's header as arithmetic on its bytes 4 to 6 (R126). -/
theorem Header.ofFile_declaredLength (f : List Byte) :
    (Header.ofFile f).declaredLength =
      16 + (if (f.getD 6 0).getLsbD 2 then 512 else 0) + (f.getD 4 0).toNat * 16384 + (f.getD 5 0).toNat * 8192 := by
  rw [Header.declaredLength, Header.ofFile_trainerSize]
  rfl

theorem readContainer_of_failure (checkMagic : Bool) : readContainer checkMagic .failure = .error .ioError := rfl

theorem readContainer_of_short_header (checkMagic : Bool) {f : List Byte} (hlen : f.length < 16) :
    readContainer checkMagic (.bytes f) = .error (.formatError .shortHeader) := by
  simp only [readContainer, headerOf_of_short hlen]

theorem readContainer_of_bad_magic {f : List Byte} (hheader : 16 ≤ f.length) (hmagic : f.take 4 ≠ magic) :
    readContainer true (.bytes f) = .error (.formatError .badMagic) := by
  have hchecked : (true && f.take 4 != magic) = true := by simpa using hmagic
  simp only [readContainer, headerOf_of_length hheader, if_pos hchecked]

theorem readContainer_of_short_body {checkMagic : Bool} {f : List Byte} (hheader : 16 ≤ f.length)
    (hmagic : checkMagic = true → f.take 4 = magic) (hlen : f.length < (Header.ofFile f).declaredLength) :
    readContainer checkMagic (.bytes f) = .error (.formatError .shortBody) := by
  have hchecked : ¬ (checkMagic && f.take 4 != magic) = true := by simpa using hmagic
  simp only [readContainer, headerOf_of_length hheader, if_neg hchecked, if_pos hlen]

/-- A load that fails takes the exception and answers it. -/
theorem load_of_readContainer_eq_error {s : State} {src : Source} {x : LoadError} (hrom : s.rom = .empty)
    (hread : readContainer s.cfg.checkMagic src = .error x) :
    load src s = .next (reply (.loadError x) (takeException (.load x) s)) := by
  simp only [load, hrom, hread]

end Sys2Proof.Machine
end

section
/-! PROOF. Transactions in and out of order (60_exceptions.md R413, R414, 70_reset_and_hazards.md R435): what each of
them does where its container or its engine is missing, and where it is there. -/

namespace Sys2Proof.Machine

/-! ### What `CST` says of the container -/

theorem State.cst_eq_empty_iff {s : State} : s.cst = .empty ↔ s.rom = .empty := by
  unfold State.cst
  cases s.rom <;> simp

theorem State.cst_eq_loaded_iff {s : State} : s.cst = .loaded ↔ ∃ c, s.rom = .loaded c := by
  unfold State.cst
  cases s.rom <;> simp

/-! ### The container's transactions -/

/-- A request for a loaded container is `create` or one that an accessor answers. -/
theorem containerRequest_cases {q : Request}
    (h : q ∈ [.programRegion, .trainer, .graphics, .create] ∨ ∃ f, q = .field f) :
    q = .create ∨ ∃ answer, perform q = access answer := by
  cases q with
  | create => exact .inl rfl
  | field | programRegion | trainer | graphics => exact .inr ⟨_, rfl⟩
  | load | find | decode | step | run | text | reset => simp at h

theorem load_of_not_empty {s : State} (src : Source) (h : s.cst ≠ .empty) :
    load src s = .refused .loadNotPermitted := by
  rw [ne_eq, State.cst_eq_empty_iff] at h
  unfold load
  cases hrom : s.rom with
  | empty => exact absurd hrom h
  | loaded | failedIo | failedFormat => rfl

theorem access_of_not_loaded {s : State} (f : Container → Reply) (h : s.cst ≠ .loaded) :
    access f s = .refused .containerNotLoaded := by
  unfold access
  cases hrom : s.rom with
  | loaded c => exact absurd (State.cst_eq_loaded_iff.2 ⟨c, hrom⟩) h
  | empty | failedIo | failedFormat => rfl

theorem create_of_not_loaded {s : State} (h : s.cst ≠ .loaded) : create s = .refused .containerNotLoaded := by
  unfold create
  cases hrom : s.rom with
  | loaded c => exact absurd (State.cst_eq_loaded_iff.2 ⟨c, hrom⟩) h
  | empty | failedIo | failedFormat => rfl

/-- The first load completes, whether it succeeds or takes an exception. -/
theorem load_completes {s : State} (src : Source) (hrom : s.rom = .empty) : ∃ t, load src s = .next t := by
  cases hread : readContainer s.cfg.checkMagic src with
  | ok c => exact ⟨_, load_of_readContainer_eq_ok hrom hread⟩
  | error x => exact ⟨_, load_of_readContainer_eq_error hrom hread⟩

/-! ### The engine's transactions -/

theorem engineRequest_cases {q : Request} (h : q ∈ [.step, .run, .text]) : q = .step ∨ q = .run ∨ q = .text := by
  simpa using h

theorem decodeAs_of_no_engine {s : State} (m : Mnemonic) (mode : Mode) (byte1 byte2 : Byte) (h : s.engine = none) :
    decodeAs m mode byte1 byte2 s = .refused .noEngine := by
  simp only [decodeAs, h]

theorem stepEngine_of_no_engine {s : State} (h : s.engine = none) : stepEngine s = .refused .noEngine := by
  simp only [stepEngine, h]

theorem run_of_no_engine {s : State} (h : s.engine = none) : run s = .refused .noEngine := by
  simp only [run, h]

theorem readText_of_no_engine {s : State} (h : s.engine = none) : readText s = .refused .noEngine := by
  simp only [readText, h]

theorem readText_of_engine {s : State} {e : Engine} (h : s.engine = some e) :
    readText s = .next (reply (.text (textOf s.cfg e.lines)) s) := by
  simp only [readText, h]

theorem EngineKept.completes {s : State} {e : Engine} {o : Host.Outcome State Fault Refusal} (h : EngineKept s e o) :
    ∃ t, o = .next t := by
  obtain ⟨_, hnext, _⟩ := h
  exact ⟨_, hnext⟩

end Sys2Proof.Machine
end

section
/-! PROOF. No transaction and no step changes the configuration (70_reset_and_hazards.md R433). -/

namespace Sys2Proof.Machine

theorem EngineExtended.cfg {s t : State} (h : EngineExtended s t) : t.cfg = s.cfg := by
  obtain ⟨_, _, _, rfl, _⟩ := h
  rfl

theorem Effect.cfg {s t : State} {r : Request} (h : Effect s r t) : t.cfg = s.cfg := by
  cases h with
  | loaded _ _ | answered _ | created _ | reset => rfl
  | failed _ _ => rw [reply_cfg, takeException_cfg]
  | stepped next => exact (stepEngine_extended next).cfg
  | ran next => exact (run_extended next).cfg

theorem step_cfg {s t : State} (h : step s = .next t) : t.cfg = s.cfg := by
  rcases step_cases h with ⟨_, hstep⟩ | ⟨_, _, _, heffect⟩
  · exact (stepEngine_extended hstep).cfg
  · exact heffect.cfg

end Sys2Proof.Machine
end

section
/-! PROOF. The statements of the families 60_exceptions.md and 70_reset_and_hazards.md. -/

namespace Sys2Proof.Machine

/-- Settles O36: the first check that fails names the error, and the exception leaves the failed container alone. -/
theorem loadFailures : Obligations.LoadFailures := by
  intro s hrom _
  refine ⟨load_of_readContainer_eq_error hrom (readContainer_of_failure _), fun f => ⟨fun hshort => ?_,
    fun hheader hcheck hmagic => ?_, fun hheader hmagic hlen => ?_⟩⟩
  · exact load_of_readContainer_eq_error hrom (readContainer_of_short_header _ hshort)
  · exact load_of_readContainer_eq_error hrom (hcheck ▸ readContainer_of_bad_magic hheader hmagic)
  · rw [← Header.ofFile_declaredLength] at hlen
    exact load_of_readContainer_eq_error hrom (readContainer_of_short_body hheader hmagic hlen)

/-- Settles O54: each transaction's own refusal; every instruction's meaning is the shared decode, which needs an
engine. -/
theorem transactionsOutOfOrderRefused : Obligations.TransactionsOutOfOrderRefused := by
  intro s
  refine ⟨fun src hcst => load_of_not_empty src hcst, fun q hcst hq => ?_, fun q he hq => ?_, fun i he => ?_⟩
  · rcases containerRequest_cases hq with rfl | ⟨answer, haccess⟩
    · exact create_of_not_loaded hcst
    · rw [haccess, access_of_not_loaded answer hcst]
  · rcases engineRequest_cases hq with rfl | rfl | rfl
    · exact stepEngine_of_no_engine he
    · exact run_of_no_engine he
    · exact readText_of_no_engine he
  · rw [exec_eq_decodeAs, decodeAs_of_no_engine _ _ _ _ he]

/-- Settles O53: each transaction's own rule; of an engine that meets the invariant every step and every run
completes. -/
theorem transactionsInOrderComplete : Obligations.TransactionsInOrderComplete := by
  intro s hinv
  refine ⟨fun src hcst => load_completes src (State.cst_eq_empty_iff.1 hcst), fun q hcst hq => ?_,
    fun q hengine hq => ?_, _, rfl⟩
  · obtain ⟨c, hrom⟩ := State.cst_eq_loaded_iff.1 hcst
    rcases containerRequest_cases hq with rfl | ⟨answer, haccess⟩
    · exact ⟨_, create_of_loaded hrom⟩
    · exact ⟨_, haccess ▸ access_of_loaded hrom⟩
  · obtain ⟨e, he⟩ := Option.ne_none_iff_exists'.1 hengine
    rcases engineRequest_cases hq with rfl | rfl | rfl
    · exact (stepEngine_kept he (hinv.engine_inv he)).completes
    · exact (run_kept he (hinv.engine_inv he)).completes
    · exact ⟨_, readText_of_engine he⟩

/-- Settles O55: whatever effect a step has, each transaction keeps the configuration. -/
theorem configurationNeverChanges : Obligations.ConfigurationNeverChanges :=
  fun _ _ h => step_cfg h

end Sys2Proof.Machine
end
